-- ==== Sys2Proof/Word.lean ====
section
/-! DEFINITION. The word of the host port: 16 bits (Terms and abbreviations, "Word"), and two plain helpers
over fixed tables of state. -/

namespace Sys2Proof

/-- A word of the register window: 16 bits. -/
abbrev Word := BitVec 16

/-- A table with `f` applied to each entry. (Written over the list of entries, so that the kernel can run it.) -/
def mapTable {α β : Type} {n : Nat} (f : α → β) (v : Vector α n) : Vector β n :=
  ⟨(v.toList.map f).toArray, by simp⟩

/-- A count that stops at 255 instead of wrapping: the "saturating" counts of R53, R79, R126, R138 and R161. -/
def saturate255 (n : Nat) : Nat := min 255 n

end Sys2Proof
end

