-- ==== Sys2Proof/Syntax.lean ====
section
/-! DEFINITION. The commands and events that the device takes: one constructor for each row of
spec/opcode_table.json, in the table's order. The table gives its rows no bits, so the operands here are the ones
the manual's rules speak of: a header byte, a written word, the index of a channel, unit, generator or pin. Commands
written to CMD have no operand: they read ARG and STAGE, which are registers of State (R182). Channels TX0 to TX3
are 0 to 3, units CAP0 and CAP1 are 0 and 1, generators CGA and CGB are 0 and 1, pins P0 to P7 are 0 to 7. -/

namespace Sys2Proof

/-- The two causes of a full reset (R183). -/
inductive ResetCause where
  /-- RST# is low. -/
  | rstPin
  /-- The power-on detector holds the device. -/
  | powerOn
  deriving DecidableEq, Repr

/-- What the circuit outside does on P0 to P7 at one moment, bit n for Pn (R116). -/
structure Outside where
  /-- The level that the outside puts on the pin, 1 high; where it opposes the device's drive, the level that results from
  the contest. -/
  level : BitVec 8
  /-- 1 where the outside opposes a level that the device drives. On a pin that the device does not drive it says
  nothing. -/
  opposes : BitVec 8
  deriving DecidableEq, Repr, Inhabited

/-- One row of the opcode table each: what the device can be made to do, whole and indivisible. -/
inductive Instr where
  /-- SEL# falls (R175). -/
  | frameBegin
  /-- The eighth bit of a header byte is sampled (R175). -/
  | header (byte : BitVec 8)
  /-- SEL# rises (R179). -/
  | selRise
  /-- A cause of full reset sets in (R183). -/
  | fullReset (cause : ResetCause)
  /-- A cause of full reset ceases; the reset ends when neither cause holds it (R183). -/
  | fullResetEnd (cause : ResetCause)
  /-- A word with a code that names no command is completed at CMD; `code` is its low byte (R180). -/
  | badCommand (code : BitVec 8)
  | defineSymbol
  | clearSymbol
  | readSymbol
  | openSeq
  | appendSeq
  | sealSeq
  | discardSeq
  | freeSeq
  | readSeq
  | postFrame
  | flush
  | abort
  | release
  | hold
  | resume
  | clPop
  | capSetup
  | capDecodeSet
  | capStart
  | capStop
  | capPop
  | setTimebase
  | pinRoute
  | engineReset
  /-- `word` is completed at the register that the address pointer names (R178). -/
  | registerWrite (word : Word)
  /-- A word with enable 1 and the watermark field `watermark` is completed at TXn_CTRL (R74, R45). -/
  | settingEnabled (n : Fin 4) (watermark : BitVec 3)
  /-- A word with enable 0 and the watermark field `watermark` is completed at TXn_CTRL (R74, R45). -/
  | clearingEnabled (n : Fin 4) (watermark : BitVec 3)
  /-- `word` is completed at TXn_CTRL (R45). -/
  | watermarkWrite (n : Fin 4) (word : Word)
  /-- `word` is completed at CGx_PERIOD (R99). -/
  | cgxPeriodWrite (g : Fin 2) (word : Word)
  /-- `word` is completed at CGx_HIGH (R99). -/
  | cgxHighWrite (g : Fin 2) (word : Word)
  /-- A word with enable 1 is completed at CGx_CTRL (R102). -/
  | carrierEnable (g : Fin 2)
  /-- A word with enable 0 is completed at CGx_CTRL (R103). -/
  | carrierDisable (g : Fin 2)
  /-- `word` is completed at PINn_CFG (R118). -/
  | pinCfgWrite (pin : Fin 8) (word : Word)
  /-- `word` is completed at EVT_PEND0 or EVT_PEND1 (R169). -/
  | evtPendWrite (reg : Fin 2) (word : Word)
  /-- `word` is completed at EVT_EN0 or EVT_EN1 (R171). -/
  | evtEnWrite (reg : Fin 2) (word : Word)
  /-- The timebase count reaches 2^k (R92). `outside` is the input of that moment: what the circuit outside does on the
  pins immediately before the beat event (R116, R119). -/
  | beatEvent (outside : Outside)
  /-- Channel n, IDLE, takes the beat event and starts its head (R57). -/
  | startHead (n : Fin 4)
  /-- Channel n's beats remaining of a phase have reached 0 (R58). -/
  | phaseEnd (n : Fin 4)
  /-- Channel n's beats remaining of a gap have reached 0 (R60). -/
  | gapEnd (n : Fin 4)
  /-- A freed entry of the completion log is given to the head of the wait list (R84). -/
  | recordAdmission
  /-- Channel n, HELD with resume pending, takes the beat event (R70). -/
  | resumeTaken (n : Fin 4)
  /-- Generator g's position reaches the current period (R98). -/
  | carrierPeriodEnd (g : Fin 2)
  /-- Generator g's position reaches the high time (R98). -/
  | carrierHighTimeEnd (g : Fin 2)
  /-- Unit u's filter run has reached F + 1 samples (R131). -/
  | acceptedEdge (u : Fin 2)
  /-- Unit u's open space has reached the idle threshold with a SPACE sample (R136). -/
  | idleTimeout (u : Fin 2)
  /-- Unit u's open mark has reached 65535 beats (R137). -/
  | stuckMark (u : Fin 2)
  /-- The sixteenth rising edge of SCK of a word in a read frame (R176). -/
  | readWordCompletion
  deriving DecidableEq, Repr

/-- The commands that a word written to CMD can name (section 12.6). -/
inductive Command where
  | defineSymbol | clearSymbol | readSymbol
  | openSeq | appendSeq | sealSeq | discardSeq | freeSeq | readSeq
  | postFrame | flush | abort | release | hold | resume
  | clPop
  | capSetup | capDecodeSet | capStart | capStop | capPop
  | setTimebase | pinRoute | engineReset
  deriving DecidableEq, Repr

/-- The 64 registers of the window (R185). -/
inductive Reg where
  | cmd
  | result
  | arg (i : Fin 6)
  | stage (i : Fin 12)
  | clOut (i : Fin 3)
  | clStatus
  | capOut (i : Fin 2)
  | capStatus (u : Fin 2)
  | evtPend (r : Fin 2)
  | evtEn (r : Fin 2)
  | txCtrl (n : Fin 4)
  | txStatus (n : Fin 4)
  | cgPeriod (g : Fin 2)
  | cgHigh (g : Fin 2)
  | cgCtrl (g : Fin 2)
  | timebase
  | pinSense
  | pinCfg (p : Fin 8)
  | pinRoute (p : Fin 8)
  deriving DecidableEq, Repr

end Sys2Proof
end

