-- ==== Sys2Proof/Decode.lean ====
section
/-! DEFINITION. What bits mean at the host port: command codes (section 12.6), register addresses (R185), header
bytes (R175). The opcode table gives no row any bits, so decodeTableWord reads no command from a word. -/

namespace Sys2Proof

/-- The code of a command (section 12.6). -/
def Command.code : Command → BitVec 8
  | .defineSymbol => 0x01#8
  | .clearSymbol => 0x02#8
  | .readSymbol => 0x03#8
  | .openSeq => 0x08#8
  | .appendSeq => 0x09#8
  | .sealSeq => 0x0A#8
  | .discardSeq => 0x0B#8
  | .freeSeq => 0x0C#8
  | .readSeq => 0x0D#8
  | .postFrame => 0x10#8
  | .flush => 0x11#8
  | .abort => 0x12#8
  | .release => 0x13#8
  | .hold => 0x14#8
  | .resume => 0x15#8
  | .clPop => 0x18#8
  | .capSetup => 0x20#8
  | .capDecodeSet => 0x21#8
  | .capStart => 0x22#8
  | .capStop => 0x23#8
  | .capPop => 0x24#8
  | .setTimebase => 0x28#8
  | .pinRoute => 0x29#8
  | .engineReset => 0x3F#8

/-- Every command, in the order of section 12.6. -/
def Command.all : List Command :=
  [.defineSymbol, .clearSymbol, .readSymbol, .openSeq, .appendSeq, .sealSeq, .discardSeq, .freeSeq, .readSeq,
   .postFrame, .flush, .abort, .release, .hold, .resume, .clPop, .capSetup, .capDecodeSet, .capStart, .capStop,
   .capPop, .setTimebase, .pinRoute, .engineReset]

/-- The command that a code names, if it names one (R180: "any code not in the table, code 0x00 included" names
none). -/
def Command.ofCode (code : BitVec 8) : Option Command :=
  Command.all.find? (fun c => c.code == code)

/-- The address of a register (R185). -/
def Reg.addr : Reg → BitVec 6
  | .cmd => 0x00#6
  | .result => 0x01#6
  | .arg i => 0x02#6 + BitVec.ofNat 6 i
  | .stage i => 0x08#6 + BitVec.ofNat 6 i
  | .clOut i => 0x14#6 + BitVec.ofNat 6 i
  | .clStatus => 0x17#6
  | .capOut i => 0x18#6 + BitVec.ofNat 6 i
  | .capStatus u => 0x1A#6 + BitVec.ofNat 6 u
  | .evtPend r => 0x1C#6 + BitVec.ofNat 6 r
  | .evtEn r => 0x1E#6 + BitVec.ofNat 6 r
  | .txCtrl n => 0x20#6 + BitVec.ofNat 6 n
  | .txStatus n => 0x24#6 + BitVec.ofNat 6 n
  | .cgPeriod g => 0x28#6 + BitVec.ofNat 6 (3 * g)
  | .cgHigh g => 0x29#6 + BitVec.ofNat 6 (3 * g)
  | .cgCtrl g => 0x2A#6 + BitVec.ofNat 6 (3 * g)
  | .timebase => 0x2E#6
  | .pinSense => 0x2F#6
  | .pinCfg p => 0x30#6 + BitVec.ofNat 6 p
  | .pinRoute p => 0x38#6 + BitVec.ofNat 6 p

/-- The register at an address. Every six-bit address names one (R175). -/
def Reg.ofAddr (a : BitVec 6) : Reg :=
  let n := a.toNat
  if n = 0x00 then .cmd
  else if n = 0x01 then .result
  else if h : 0x02 ≤ n ∧ n < 0x08 then .arg ⟨n - 0x02, by omega⟩
  else if h : 0x08 ≤ n ∧ n < 0x14 then .stage ⟨n - 0x08, by omega⟩
  else if h : 0x14 ≤ n ∧ n < 0x17 then .clOut ⟨n - 0x14, by omega⟩
  else if n = 0x17 then .clStatus
  else if h : 0x18 ≤ n ∧ n < 0x1A then .capOut ⟨n - 0x18, by omega⟩
  else if h : 0x1A ≤ n ∧ n < 0x1C then .capStatus ⟨n - 0x1A, by omega⟩
  else if h : 0x1C ≤ n ∧ n < 0x1E then .evtPend ⟨n - 0x1C, by omega⟩
  else if h : 0x1E ≤ n ∧ n < 0x20 then .evtEn ⟨n - 0x1E, by omega⟩
  else if h : 0x20 ≤ n ∧ n < 0x24 then .txCtrl ⟨n - 0x20, by omega⟩
  else if h : 0x24 ≤ n ∧ n < 0x28 then .txStatus ⟨n - 0x24, by omega⟩
  else if n = 0x28 then .cgPeriod 0
  else if n = 0x29 then .cgHigh 0
  else if n = 0x2A then .cgCtrl 0
  else if n = 0x2B then .cgPeriod 1
  else if n = 0x2C then .cgHigh 1
  else if n = 0x2D then .cgCtrl 1
  else if n = 0x2E then .timebase
  else if n = 0x2F then .pinSense
  else if h : 0x30 ≤ n ∧ n < 0x38 then .pinCfg ⟨n - 0x30, by omega⟩
  else .pinRoute ⟨n - 0x38, by have := a.isLt; omega⟩

/-- Bit 7 of a header byte: 1 for a read frame (R175). -/
def headerReads (byte : BitVec 8) : Bool := byte.getLsbD 7

/-- Bit 6 of a header byte: 1 holds the address pointer fixed (R175). -/
def headerInhibits (byte : BitVec 8) : Bool := byte.getLsbD 6

/-- Bits 5 to 0 of a header byte: the register address (R175). -/
def headerAddr (byte : BitVec 8) : BitVec 6 := byte.extractLsb' 0 6

/-- The command that a word spells by the bits of spec/opcode_table.json: none, since no row of that table has
any bits (assumption log 24). -/
def decodeTableWord (_nbits _w : Nat) : Option Instr := none

end Sys2Proof
end

