-- ==== Sys2Proof/Config.lean ====
section
/-! DEFINITION. What the manual leaves open, each as a constant with no body: a statement about the model holds
whatever these are. Nothing in Lean can evaluate one or prove a value of it. -/

namespace Sys2Proof.Config

/-- What the circuit outside does on P0 to P7 at the moment of the n-th reading that no command of the queue carries it
for: a beat event of the free-running clock, or a snapshot of PIN_SENSE. R116: a pin that is not driven carries the level
set by the circuit outside, an undriven pin with nothing attached "has no defined level", and a pin whose drive is opposed
carries "whatever level results from the contest". Free value; assumption logs 10 and 11. -/
opaque outside : Nat → Outside

/-- Which of several channels takes one beat event first, when the clock runs by itself. R92: the timebase
"places no order among them"; R87: two frame ends at one beat event stand in the log in an order "which may be
either". Free value; assumption log 8. -/
opaque channelChoice : Nat → Nat

/-- Which watermark a frame end sees that is caused by the very write to TXn_CTRL that also stores a new
watermark: the new one if true. R45 and R74 date both effects to the completion of the one word and R46 compares
with W "as it stands at that event". Free value; assumption log 12. -/
opaque clearingSeesNewWatermark : Bool

/-- The level of SDO while SEL# is low and no frame is in progress, after a full reset that ended with SEL# low:
R177 says that SDO is driven then and states no level. Free value; assumption log 13. -/
opaque sdoOutsideFrame : Bool

end Sys2Proof.Config
end

