-- ==== Sys2Proof/WellFormed.lean ====
section
/-! DEFINITION. Which terms of Instr stand for something that can be sent. Indices are bounded by their types;
what is left to check is that BAD_COMMAND carries a code that names no command (R180). -/

namespace Sys2Proof

/-- A row's operands are ones that the row can have. -/
def Instr.wellFormed : Instr → Bool
  | .badCommand code => (Command.ofCode code).isNone
  | .frameBegin | .header _ | .selRise | .fullReset _ | .fullResetEnd _ => true
  | .defineSymbol | .clearSymbol | .readSymbol => true
  | .openSeq | .appendSeq | .sealSeq | .discardSeq | .freeSeq | .readSeq => true
  | .postFrame | .flush | .abort | .release | .hold | .resume | .clPop => true
  | .capSetup | .capDecodeSet | .capStart | .capStop | .capPop => true
  | .setTimebase | .pinRoute | .engineReset | .registerWrite _ => true
  | .settingEnabled _ _ | .clearingEnabled _ _ | .watermarkWrite _ _ => true
  | .cgxPeriodWrite _ _ | .cgxHighWrite _ _ | .carrierEnable _ | .carrierDisable _ => true
  | .pinCfgWrite _ _ | .evtPendWrite _ _ | .evtEnWrite _ _ => true
  | .beatEvent _ | .startHead _ | .phaseEnd _ | .gapEnd _ | .recordAdmission | .resumeTaken _ => true
  | .carrierPeriodEnd _ | .carrierHighTimeEnd _ => true
  | .acceptedEdge _ | .idleTimeout _ | .stuckMark _ | .readWordCompletion => true

end Sys2Proof
end

