-- ==== Sys2Proof/Machine/State.lean ====
section
/-! DEFINITION. The state of the device as plain data, and its value right after a full reset. -/

namespace Sys2Proof.Machine

/-- The logical levels of a pulse-coded signal (Terms and abbreviations). -/
inductive Level where
  | mark
  | space
  deriving DecidableEq, Repr

/-- An electrical level. -/
inductive Line where
  | low
  | high
  deriving DecidableEq, Repr

/-- Whether a symbol record describes a symbol (R1). -/
inductive SymbolState where
  | empty
  | defined
  deriving DecidableEq, Repr

/-- A record of the Symbol Table (R1). The phase count is the length of `lengths`. -/
structure Symbol where
  state : SymbolState
  lead : Level
  lengths : List Nat
  tolerance : Nat
  code : BitVec 8
  refs : Nat
  deriving DecidableEq, Repr

/-- The state of a sequence slot (R18): FREE, OPEN, SEALED. -/
inductive SlotState where
  | free
  | opened
  | sealed
  deriving DecidableEq, Repr

/-- A slot of the Sequence Store (R18). The slot's length is the length of `cells`. -/
structure Slot where
  state : SlotState
  cells : List (Fin 64)
  frames : Nat
  deriving DecidableEq, Repr

/-- A frame descriptor (R33). `carrier` is none for NONE, 0 for CGA, 1 for CGB. -/
structure Descriptor where
  slot : Fin 32
  repeats : Nat
  repeatFrom : Option Nat
  gap : Nat
  carrier : Option (Fin 2)
  tag : BitVec 8
  deriving DecidableEq, Repr

/-- A channel's current-frame context (R53). -/
structure Context where
  repetition : Nat
  position : Nat
  phase : Nat
  remaining : Nat
  last : Bool
  carrierAbsent : Bool
  completed : Nat
  deriving DecidableEq, Repr

/-- How a descriptor left its queue (R79). -/
inductive FrameOutcome where
  | done
  | aborted
  | flushed
  deriving DecidableEq, Repr

/-- A completion record (R79). -/
structure Completion where
  channel : Fin 4
  tag : BitVec 8
  slot : Fin 32
  outcome : FrameOutcome
  completed : Nat
  carrierAbsent : Bool
  deriving DecidableEq, Repr

/-- The state of a transmit channel, with the context or the pending record that R51 gives it there. -/
inductive ChannelState where
  | idle
  | play (c : Context)
  | gap (c : Context)
  | held (c : Option Context)
  | logwait (r : Completion)
  deriving DecidableEq, Repr

/-- A transmit channel: its state (R51), its flags (R52; `abortPending` is true for SYMBOL), its watermark (R45)
and its frame queue, head first (R36). -/
structure Channel where
  state : ChannelState
  enabled : Bool
  holdPending : Bool
  abortPending : Bool
  resumePending : Bool
  watermark : Nat
  queue : List Descriptor
  /-- The model's own: the last beat event gave this channel something to do, and it has not done it yet. It stands only
  while the channel can still do it (assumption log 7). -/
  beatDue : Bool
  deriving DecidableEq, Repr

/-- A carrier generator (R96). `outputHigh` is its output. -/
structure Carrier where
  enabled : Bool
  periodReg : Word
  highReg : Word
  ready : Bool
  period : Nat
  high : Nat
  position : Nat
  outputHigh : Bool
  deriving DecidableEq, Repr

/-- A source that may stand in a route list (R108). -/
inductive Source where
  | tx (n : Fin 4)
  | cg (g : Fin 2)
  deriving DecidableEq, Repr

/-- What a pin does when no source of its list asserts (R107). -/
inductive StaticMode where
  | released
  | drive
  deriving DecidableEq, Repr

/-- How a pin is driven (R107). -/
inductive DriveStyle where
  | pushPull
  | openDrain
  deriving DecidableEq, Repr

/-- A pin's static configuration and route list (R107, R108). -/
structure Pin where
  mode : StaticMode
  level : Line
  style : DriveStyle
  invert : Bool
  route : List Source
  deriving DecidableEq, Repr

/-- The mode of a capture unit (R123). -/
inductive CaptureMode where
  | raw
  | decode
  deriving DecidableEq, Repr

/-- The configuration of a capture unit (R123). -/
structure CaptureConfig where
  pin : Fin 8
  mode : CaptureMode
  rest : Line
  filter : Nat
  idle : Nat
  threshold : Nat
  deriving DecidableEq, Repr

/-- A unit's accepted level and filter run (R126). -/
structure Filter where
  accepted : Level
  run : Nat
  deriving DecidableEq, Repr

/-- The state of a capture unit, with the run state that R126 gives it there. In ARMED the accepted level is
absent until the first sample. In IN_FRAME, `age` is the phase timer, told as the number of beat events since the
one that the open phase is dated to (assumption log 18), and `phases` the phase count. -/
inductive CaptureState where
  | off
  | armed (f : Option Filter)
  | inFrame (f : Filter) (age phases : Nat)
  | stuck (f : Filter)
  deriving DecidableEq, Repr

/-- A measured phase (R147). -/
structure Phase where
  level : Level
  length : Nat
  deriving DecidableEq, Repr

/-- A held match: a member of the decode set and the length at which it matched (R147). -/
structure HeldMatch where
  member : Fin 64
  length : Nat
  deriving DecidableEq, Repr

/-- A record of a capture log (R159). -/
inductive CaptureRecord where
  | phase (level : Level) (length : Nat)
  | symbol (index : Fin 64) (code : BitVec 8)
  | noMatch (level : Level) (length : Nat)
  | frameEnd (number : BitVec 8) (phases : Nat) (stuck cut : Bool)
  | overrun (lost : Nat)
  deriving DecidableEq, Repr

/-- A capture unit with its decoder and its capture log (R123, R126, R144, R147, R159). -/
structure CaptureUnit where
  config : CaptureConfig
  state : CaptureState
  frameNumber : BitVec 8
  decodeSet : List (Fin 64)
  pendingList : List Phase
  held : Option HeldMatch
  log : List CaptureRecord
  deriving DecidableEq, Repr

/-- The result of a command (R181). -/
inductive Result where
  | ok | badCommand | badIndex | badArg | inUse | notDefined | notOpen | notSealed | seqFull | empty
  | queueFull | logRoom | noFrame | notHeld | busy | duplicate | already
  deriving DecidableEq, Repr

/-- The frame phase of the host port (section 12.1). -/
inductive FramePhase where
  | noFrame
  | header
  | words
  deriving DecidableEq, Repr

/-- The direction of a host-port frame (R175). -/
inductive Direction where
  | write
  | read
  deriving DecidableEq, Repr

/-- The host port's own state (section 12.1). `bitCount` is 0 wherever a row of the table begins or ends
(assumption log 4). `shift` holds the word that a read frame is shifting out (R177). -/
structure Port where
  phase : FramePhase
  bitCount : Nat
  direction : Direction
  inhibit : Bool
  pointer : BitVec 6
  shift : Word
  deriving DecidableEq, Repr

/-- Everything the device holds, the lines SEL# and the two causes of full reset, and the model's own queue of
waiting commands and counter of free values. -/
structure State where
  /-- RST# is low (R183). -/
  rstLow : Bool
  /-- The power-on detector holds the device (R183). -/
  powerHold : Bool
  /-- SEL# is low (R175). -/
  selLow : Bool
  port : Port
  /-- The code in bits 15 to 8 of RESULT (R181). -/
  resultCode : BitVec 8
  /-- The result in bits 7 to 0 of RESULT (R181). -/
  result : Result
  args : Vector Word 6
  stage : Vector Word 12
  clOut : Vector Word 3
  capOut : Vector Word 2
  symbols : Vector Symbol 64
  slots : Vector Slot 32
  channels : Vector Channel 4
  /-- The completion log, oldest record first (R80). -/
  log : List Completion
  /-- The wait list of the completion log, head first (R81). -/
  waitList : List (Fin 4)
  /-- The timebase exponent k and the timebase count of CLKIN periods (R92). -/
  exponent : Nat
  count : Nat
  carriers : Vector Carrier 2
  pins : Vector Pin 8
  units : Vector CaptureUnit 2
  /-- EVT_PEND0 and EVT_PEND1 (R168). -/
  pend : Vector Word 2
  /-- EVT_EN0 and EVT_EN1 (R171). -/
  enable : Vector Word 2
  /-- The model's own: how many free values have been drawn. -/
  freeCount : Nat
  /-- The model's own: the commands and events that wait, first in, first out. -/
  pending : List Instr
  deriving DecidableEq, Repr

/-- Why the device would stop with a fault. The manual gives it no such stop: every command ends carried out or
refused with a result, and every event has its effect. So there is no reason. -/
inductive Fault where
  deriving DecidableEq, Repr

/-- Why the model gives a row no meaning. -/
inductive Refusal where
  /-- Raised by exec's arm for a row that has no meaning yet, with the row's mnemonic. Safe: nothing can be
  proved of such a row. No arm raises it now. -/
  | notModelled (mnemonic : String)
  deriving DecidableEq, Repr

/-- An EMPTY symbol record, every field zero (R1, R3). -/
def Symbol.reset : Symbol :=
  { state := .empty, lead := .mark, lengths := [], tolerance := 0, code := 0, refs := 0 }

/-- A FREE slot (R20). -/
def Slot.reset : Slot := { state := .free, cells := [], frames := 0 }

/-- A channel after full reset (R55). -/
def Channel.reset : Channel :=
  { state := .idle, enabled := false, holdPending := false, abortPending := false, resumePending := false,
    watermark := 0, queue := [], beatDue := false }

/-- A generator after full reset (R106). -/
def Carrier.reset : Carrier :=
  { enabled := false, periodReg := 2, highReg := 1, ready := false, period := 2, high := 1, position := 0,
    outputHigh := false }

/-- A pin after full reset (R121). -/
def Pin.reset : Pin :=
  { mode := .released, level := .low, style := .pushPull, invert := false, route := [] }

/-- A capture unit after full reset (R142, R158, R167). -/
def CaptureUnit.reset : CaptureUnit :=
  { config := { pin := 0, mode := .raw, rest := .high, filter := 0, idle := 65535, threshold := 1 },
    state := .off, frameNumber := 0, decodeSet := [], pendingList := [], held := none, log := [] }

/-- The port after full reset (R182). -/
def Port.reset : Port :=
  { phase := .noFrame, bitCount := 0, direction := .write, inhibit := false, pointer := 0, shift := 0 }

/-- The device right after a full reset has ended, with SEL# high and nothing waiting (R183, R185; SEL# is an
input, assumption log 14). -/
def State.reset : State :=
  { rstLow := false
    powerHold := false
    selLow := false
    port := .reset
    resultCode := 0
    result := .ok
    args := Vector.replicate 6 0
    stage := Vector.replicate 12 0
    clOut := Vector.replicate 3 0
    capOut := Vector.replicate 2 0
    symbols := Vector.replicate 64 .reset
    slots := Vector.replicate 32 .reset
    channels := Vector.replicate 4 .reset
    log := []
    waitList := []
    exponent := 0
    count := 0
    carriers := Vector.replicate 2 .reset
    pins := Vector.replicate 8 .reset
    units := Vector.replicate 2 .reset
    pend := Vector.replicate 2 0
    enable := Vector.replicate 2 0
    freeCount := 0
    pending := [] }

end Sys2Proof.Machine
end

