-- ==== Sys2Proof/Machine/Ops.lean ====
section
/-! DEFINITION. The named operations over the parts of State, and how a word completed at the host port acts:
which register it reaches, how a command is checked and carried out, and how the address pointer moves. -/

namespace Sys2Proof.Machine

/-! ### The parts of State -/

/-- A full reset is in effect while RST# is low or the power-on detector holds the device (R183). -/
def State.inReset (s : State) : Bool := s.rstLow || s.powerHold

/-- Argument register i (R182). -/
def State.arg (s : State) (i : Fin 6) : Word := s.args[i]

/-- Channel n. -/
def State.channel (s : State) (n : Fin 4) : Channel := s.channels[n]

/-- Symbol record i (R1). -/
def State.symbol (s : State) (i : Fin 64) : Symbol := s.symbols[i]

/-- Sequence slot i (R18). -/
def State.slot (s : State) (i : Fin 32) : Slot := s.slots[i]

/-- Carrier generator g (R96). -/
def State.carrier (s : State) (g : Fin 2) : Carrier := s.carriers[g]

/-- Pin p (R107). -/
def State.pin (s : State) (p : Fin 8) : Pin := s.pins[p]

/-- Capture unit u (R123). -/
def State.captureUnit (s : State) (u : Fin 2) : CaptureUnit := s.units[u]

/-- The state with channel n replaced. -/
def State.setChannel (n : Fin 4) (c : Channel) (s : State) : State :=
  { s with channels := s.channels.set n c }

/-- The state with symbol record i replaced. -/
def State.setSymbol (i : Fin 64) (x : Symbol) (s : State) : State :=
  { s with symbols := s.symbols.set i x }

/-- The state with slot i replaced. -/
def State.setSlot (i : Fin 32) (x : Slot) (s : State) : State :=
  { s with slots := s.slots.set i x }

/-- The state with generator g replaced. -/
def State.setCarrier (g : Fin 2) (c : Carrier) (s : State) : State :=
  { s with carriers := s.carriers.set g c }

/-- The state with pin p replaced. -/
def State.setPin (p : Fin 8) (x : Pin) (s : State) : State :=
  { s with pins := s.pins.set p x }

/-- The state with capture unit u replaced. -/
def State.setUnit (u : Fin 2) (x : CaptureUnit) (s : State) : State :=
  { s with units := s.units.set u x }

/-- Channel n changed by f. -/
def State.modChannel (n : Fin 4) (f : Channel → Channel) (s : State) : State :=
  s.setChannel n (f (s.channel n))

/-- Capture unit u changed by f. -/
def State.modUnit (u : Fin 2) (f : CaptureUnit → CaptureUnit) (s : State) : State :=
  s.setUnit u (f (s.captureUnit u))

/-- RESULT set to a code and a result (R181). -/
def State.setResult (code : BitVec 8) (r : Result) (s : State) : State :=
  { s with resultCode := code, result := r }

/-! ### A beat event that a channel has still to take -/

/-- The condition on which a channel that is IDLE, or leaves HELD without a frame, starts its head (R57, R70). -/
def Channel.canStart (ch : Channel) : Bool := ch.enabled && !ch.queue.isEmpty

/-- A channel has something to do at the last beat event that it has not done yet (R57, R58, R70). -/
def channelDue (ch : Channel) : Bool :=
  match ch.state with
  | .play c | .gap c => c.remaining = 0 && !ch.queue.isEmpty
  | .idle => ch.beatDue && ch.canStart
  | .held none => ch.beatDue && ch.resumePending
  | .held (some _) => ch.beatDue && ch.resumePending && !ch.queue.isEmpty
  | .logwait _ => false

/-- Channel n has no beat event left to take: it has taken the last one, or that one no longer reaches it. -/
def beatTaken (n : Fin 4) (s : State) : State :=
  s.modChannel n (fun ch => { ch with beatDue := false })

/-! ### Reference counts and frame counts -/

/-- The reference count of each symbol raised once for each position that names it in the list (R9). -/
def State.raiseRefs (l : List (Fin 64)) (s : State) : State :=
  l.foldl (fun t i => t.setSymbol i { t.symbol i with refs := (t.symbol i).refs + 1 }) s

/-- The reference count of each symbol lowered once for each position that names it in the list (R10). -/
def State.lowerRefs (l : List (Fin 64)) (s : State) : State :=
  l.foldl (fun t i => t.setSymbol i { t.symbol i with refs := (t.symbol i).refs - 1 }) s

/-- The frame count of a slot raised by 1 (R29). -/
def State.raiseFrames (i : Fin 32) (s : State) : State :=
  s.setSlot i { s.slot i with frames := (s.slot i).frames + 1 }

/-- The frame count of each slot lowered once for each descriptor that leaves its queue (R29). -/
def State.lowerFrames (l : List Descriptor) (s : State) : State :=
  l.foldl (fun t d => t.setSlot d.slot { t.slot d.slot with frames := (t.slot d.slot).frames - 1 }) s

/-! ### A word completed at the host port -/

/-- A word is completed at register r of a write frame: no full reset is in effect, the port is in the words phase
of a write frame, and the address pointer names r (R176, R178). -/
abbrev State.AtWrite (s : State) (r : Reg) : Prop :=
  s.inReset = false ∧ s.port.phase = .words ∧ s.port.direction = .write ∧ Reg.ofAddr s.port.pointer = r

/-- A word is completed in a read frame (R176). -/
abbrev State.AtRead (s : State) : Prop :=
  s.inReset = false ∧ s.port.phase = .words ∧ s.port.direction = .read

/-- At word completion, with increment-inhibit 0, the address pointer rises by 1 and wraps from 0x3F to 0x00
(R176). -/
def Port.advance (p : Port) : Port :=
  if p.inhibit then p else { p with pointer := p.pointer + 1 }

/-- A word is completed at register r: its effect f, then the address pointer moves (R176, R178). Where the port is
not at r in the words phase of a write frame, no word is completed there and nothing happens (R175, R179;
assumption log 2). -/
def completeWord (r : Reg) (f : State → State) (s : State) : State :=
  if s.AtWrite r then { f s with port := (f s).port.advance } else s

/-- A command arrives: its checks and its effect are f, which answers the result of the first check that fails, or
the state it leaves. Either way RESULT then holds the code and the result, and a refused command changes no other
state (R180, R181). -/
def arrive (code : BitVec 8) (f : State → Except Result State) (s : State) : State :=
  match f s with
  | .ok t => t.setResult code .ok
  | .error r => s.setResult code r

/-- A word naming command c is completed at CMD (R180). -/
def commandWord (c : Command) (f : State → Except Result State) (s : State) : State :=
  completeWord .cmd (arrive c.code f) s

/-- An event inside the device. While a full reset lasts there are no beats and no block acts (R93, R183). -/
def internalEvent (f : State → State) (s : State) : State :=
  if s.inReset then s else f s

end Sys2Proof.Machine
end

