-- ==== Sys2Proof/Machine/Operands.lean ====
section
/-! DEFINITION. How commands and writes read their operands from ARG, STAGE and the written word, and how records
and status are packed into words (R186). -/

namespace Sys2Proof.Machine

/-! ### Arguments -/

/-- An argument word as an index below n; none where it is out of range (the BAD_INDEX checks). -/
def index? (n : Nat) (w : Word) : Option (Fin n) :=
  if h : w.toNat < n then some ⟨w.toNat, h⟩ else none

/-- The first c STAGE words. -/
def State.stageWords (s : State) (c : Nat) : List Word := s.stage.toList.take c

/-- STAGE words as symbol indices, those above 63 left out. (R22 and R145 refuse a list with one above 63 before
its indices are used.) -/
def symbolIndices (l : List Word) : List (Fin 64) := l.filterMap (index? 64)

/-- Bits 7 to 0 of a word. -/
def lowByte (w : Word) : BitVec 8 := w.extractLsb' 0 8

/-- Bits 15 to 8 of a word. -/
def highByte (w : Word) : BitVec 8 := w.extractLsb' 8 8

/-- The tag in ARG5 of POST_FRAME: bits 7 to 0 (R186). -/
def postTag (w : Word) : BitVec 8 := lowByte w

/-- The carrier code in ARG5 of POST_FRAME: bits 9 to 8 (R186). -/
def postCarrierCode (w : Word) : BitVec 2 := w.extractLsb' 8 2

/-- The generator that a carrier code names: 0 NONE, 1 CGA, 2 CGB (R38). -/
def carrierOfCode (c : BitVec 2) : Option (Fin 2) :=
  if c = 1 then some 0 else if c = 2 then some 1 else none

/-- ARG3 of POST_FRAME: 0xFFFF for absent (R38). -/
def repeatFromOf (w : Word) : Option Nat := if w = 0xFFFF then none else some w.toNat

/-- Source codes 0 to 3 for TX0 to TX3, 4 for CGA and 5 for CGB (R109). -/
def sourceOfCode (w : Word) : Option Source :=
  if h : w.toNat < 4 then some (.tx ⟨w.toNat, h⟩)
  else if w.toNat = 4 then some (.cg 0)
  else if w.toNat = 5 then some (.cg 1)
  else none

/-! ### Codes of enumerated fields -/

def Level.flip : Level → Level
  | .mark => .space
  | .space => .mark

/-- A lead's code: 0 for MARK, 1 for SPACE (R4, R186). -/
def Level.leadBit : Level → Bool
  | .mark => false
  | .space => true

/-- A record's level bit: 1 for MARK (R186). -/
def Level.markBit : Level → Bool
  | .mark => true
  | .space => false

def Line.flip : Line → Line
  | .low => .high
  | .high => .low

/-- 1 high, 0 low (R186). -/
def Line.bit : Line → Bool
  | .low => false
  | .high => true

/-- The electrical level of a bit: 1 high, 0 low (R186). -/
def lineOfBit (b : Bool) : Line := if b then .high else .low

/-- 0 OK to 16 ALREADY (R181). -/
def Result.code : Result → BitVec 8
  | .ok => 0
  | .badCommand => 1
  | .badIndex => 2
  | .badArg => 3
  | .inUse => 4
  | .notDefined => 5
  | .notOpen => 6
  | .notSealed => 7
  | .seqFull => 8
  | .empty => 9
  | .queueFull => 10
  | .logRoom => 11
  | .noFrame => 12
  | .notHeld => 13
  | .busy => 14
  | .duplicate => 15
  | .already => 16

/-- 0 EMPTY, 1 DEFINED (R186). -/
def SymbolState.bit : SymbolState → Bool
  | .empty => false
  | .defined => true

/-- 0 FREE, 1 OPEN, 2 SEALED (R186). -/
def SlotState.code : SlotState → BitVec 2
  | .free => 0
  | .opened => 1
  | .sealed => 2

/-- 0 IDLE, 1 PLAY, 2 GAP, 3 HELD without a frame, 4 HELD with a frame, 5 LOGWAIT (R186). -/
def ChannelState.code : ChannelState → BitVec 3
  | .idle => 0
  | .play _ => 1
  | .gap _ => 2
  | .held none => 3
  | .held (some _) => 4
  | .logwait _ => 5

/-- 0 OFF, 1 ARMED, 2 IN_FRAME, 3 STUCK (R186). -/
def CaptureState.code : CaptureState → BitVec 2
  | .off => 0
  | .armed _ => 1
  | .inFrame _ _ _ => 2
  | .stuck _ => 3

/-- 1 DONE, 2 ABORTED, 3 FLUSHED (R186). -/
def FrameOutcome.code : FrameOutcome → BitVec 2
  | .done => 1
  | .aborted => 2
  | .flushed => 3

/-- 0 to 3 for TX0 to TX3, 4 for CGA, 5 for CGB (R186). -/
def Source.code : Source → BitVec 3
  | .tx n => BitVec.ofNat 3 n
  | .cg g => 4#3 + BitVec.ofNat 3 g

/-! ### Words (R186), most significant field first -/

/-- A completion record as CL_OUT0 to CL_OUT2. -/
def Completion.words (r : Completion) : Vector Word 3 :=
  #v[r.tag ++ 0#3 ++ BitVec.ofBool r.carrierAbsent ++ r.outcome.code ++ BitVec.ofNat 2 r.channel,
     0#11 ++ BitVec.ofNat 5 r.slot,
     0#8 ++ BitVec.ofNat 8 r.completed]

/-- A capture record of unit u as CAP_OUT0 and CAP_OUT1. -/
def CaptureRecord.words (u : Fin 2) : CaptureRecord → Vector Word 2
  | .phase level length =>
    #v[0#11 ++ BitVec.ofBool level.markBit ++ BitVec.ofNat 1 u ++ 1#3, BitVec.ofNat 16 length]
  | .symbol i code =>
    #v[BitVec.ofNat 8 i ++ 0#4 ++ BitVec.ofNat 1 u ++ 2#3, 0#8 ++ code]
  | .noMatch level length =>
    #v[0#11 ++ BitVec.ofBool level.markBit ++ BitVec.ofNat 1 u ++ 3#3, BitVec.ofNat 16 length]
  | .frameEnd number phases stuck cut =>
    #v[number ++ 0#1 ++ BitVec.ofBool cut ++ BitVec.ofBool stuck ++ 0#1 ++ BitVec.ofNat 1 u ++ 4#3,
       0#8 ++ BitVec.ofNat 8 phases]
  | .overrun lost =>
    #v[0#12 ++ BitVec.ofNat 1 u ++ 5#3, 0#8 ++ BitVec.ofNat 8 lost]

/-- STAGE0 to STAGE11 after READ_SYMBOL (R7, R186). -/
def Symbol.stageWords (x : Symbol) : Vector Word 12 :=
  let len (p : Nat) : Word := BitVec.ofNat 16 ((x.lengths[p]?).getD 0)
  #v[len 0, len 1, len 2, len 3, len 4, len 5, len 6, len 7,
     0#4 ++ BitVec.ofNat 4 x.lengths.length ++ 0#6 ++ BitVec.ofBool x.lead.leadBit ++ BitVec.ofBool x.state.bit,
     BitVec.ofNat 16 x.tolerance, 0#8 ++ x.code, BitVec.ofNat 16 x.refs]

/-- The word for cell position p in a READ_SEQ window: 0x00FF at or beyond the slot's length (R27). -/
def Slot.cellWord (x : Slot) (p : Nat) : Word :=
  match x.cells[p]? with
  | some i => BitVec.ofNat 16 i
  | none => 0x00FF

/-- STAGE0 to STAGE11 after READ_SEQ from an offset (R27, R186). -/
def Slot.stageWords (x : Slot) (off : Nat) : Vector Word 12 :=
  #v[0#2 ++ BitVec.ofNat 6 x.cells.length ++ 0#6 ++ x.state.code, BitVec.ofNat 16 x.frames,
     x.cellWord off, x.cellWord (off + 1), x.cellWord (off + 2), x.cellWord (off + 3), x.cellWord (off + 4),
     x.cellWord (off + 5), x.cellWord (off + 6), x.cellWord (off + 7), x.cellWord (off + 8), x.cellWord (off + 9)]

/-- TXn_STATUS (R37, R54, R186). -/
def Channel.statusWord (c : Channel) : Word :=
  (match c.queue with | [] => 0#8 | d :: _ => d.tag) ++ BitVec.ofBool c.holdPending
    ++ BitVec.ofNat 3 c.queue.length ++ BitVec.ofBool c.abortPending ++ c.state.code

/-- TXn_CTRL (R54, R186). -/
def Channel.ctrlWord (c : Channel) : Word :=
  0#9 ++ BitVec.ofNat 3 c.watermark ++ 0#3 ++ BitVec.ofBool c.enabled

/-- CL_STATUS from the record count and the wait list (R86, R186). -/
def clStatusWord (records : Nat) (waiting : List (Fin 4)) : Word :=
  let ch (j : Nat) : BitVec 2 := match waiting[j]? with | some n => BitVec.ofNat 2 n | none => 0
  ch 3 ++ ch 2 ++ ch 1 ++ ch 0 ++ BitVec.ofNat 3 waiting.length ++ BitVec.ofNat 5 records

/-- CAPn_STATUS (R129, R186). -/
def CaptureUnit.statusWord (c : CaptureUnit) : Word :=
  c.frameNumber ++ BitVec.ofNat 6 c.log.length ++ c.state.code

/-- CGx_CTRL (R97, R186). -/
def Carrier.ctrlWord (c : Carrier) : Word := 0#14 ++ BitVec.ofBool c.ready ++ BitVec.ofBool c.enabled

/-- PINn_CFG (R107, R186). -/
def Pin.cfgWord (p : Pin) : Word :=
  0#12 ++ BitVec.ofBool p.invert ++ BitVec.ofBool (p.style = .openDrain) ++ BitVec.ofBool p.level.bit
    ++ BitVec.ofBool (p.mode = .drive)

/-- PINn_ROUTE (R108, R186). -/
def Pin.routeWord (p : Pin) : Word :=
  let src (j : Nat) : BitVec 3 := match p.route[j]? with | some x => x.code | none => 0
  0#1 ++ src 2 ++ 0#1 ++ src 1 ++ 0#1 ++ src 0 ++ 0#2 ++ BitVec.ofNat 2 p.route.length

end Sys2Proof.Machine
end

