-- ==== Sys2Proof/Machine/Symbols.lean ====
section
/-! DEFINITION. The Symbol Table: its three commands and the matching arithmetic (chapter 1). -/

namespace Sys2Proof.Machine

/-! ### The record -/

/-- The level of phase position p of a symbol: the lead at even positions, the other level at odd ones (R2). -/
def Symbol.levelAt (x : Symbol) (p : Nat) : Level :=
  if p % 2 = 0 then x.lead else x.lead.flip

/-- The nominal length at phase position p; a position beyond the phase count reads as zero (R1). -/
def Symbol.lengthAt (x : Symbol) (p : Nat) : Nat := (x.lengths[p]?).getD 0

/-! ### Matching (section 1.4) -/

/-- 100 × |m − n| ≤ t × n in exact integer arithmetic, for measured length m, nominal length n and tolerance t
(R13). -/
def withinTolerance (m n t : Nat) : Bool := 100 * ((m - n) + (n - m)) ≤ t * n

/-- A measured phase matches phase position p of a DEFINED symbol (R13). -/
def Symbol.matchesAt (x : Symbol) (p : Nat) (ph : Phase) : Bool :=
  x.state = .defined && p < x.lengths.length && ph.level = x.levelAt p
    && withinTolerance ph.length (x.lengthAt p) x.tolerance

/-- Each phase of the list matches the symbol's position of its own, from position p on. -/
def Symbol.matchesFrom (x : Symbol) : Nat → List Phase → Bool
  | _, [] => true
  | p, ph :: rest => x.matchesAt p ph && x.matchesFrom (p + 1) rest

/-- The list is a prefix match of the symbol (R15). -/
def Symbol.beginsWith (x : Symbol) (l : List Phase) : Bool :=
  x.state = .defined && l.length ≤ x.lengths.length && x.matchesFrom 0 l

/-- The list is a full match of the symbol (R15). -/
def Symbol.fullMatch (x : Symbol) (l : List Phase) : Bool :=
  x.beginsWith l && l.length = x.lengths.length

/-! ### Commands -/

/-- The second check of DEFINE_SYMBOL (R4). -/
def defineArgsBad (s : State) : Bool :=
  1 < (s.arg 1).toNat || (s.arg 2).toNat = 0 || 8 < (s.arg 2).toNat || 50 < (s.arg 3).toNat
    || 255 < (s.arg 4).toNat || (s.stageWords (s.arg 2).toNat).any (· = 0)

/-- The record that DEFINE_SYMBOL writes from ARG1 to ARG4 and STAGE, with the count it had (R5). -/
def definedSymbol (s : State) (refs : Nat) : Symbol :=
  { state := .defined
    lead := if s.arg 1 = 0 then .mark else .space
    lengths := (s.stageWords (s.arg 2).toNat).map BitVec.toNat
    tolerance := (s.arg 3).toNat
    code := lowByte (s.arg 4)
    refs := refs }

/-- DEFINE_SYMBOL's checks (R4) and effect (R5). -/
def cmdDefineSymbol (s : State) : Except Result State :=
  match index? 64 (s.arg 0) with
  | none => .error .badIndex
  | some i =>
    if defineArgsBad s then .error .badArg
    else if 0 < (s.symbol i).refs then .error .inUse
    else .ok (s.setSymbol i (definedSymbol s (s.symbol i).refs))

/-- CLEAR_SYMBOL's checks and effect (R6). -/
def cmdClearSymbol (s : State) : Except Result State :=
  match index? 64 (s.arg 0) with
  | none => .error .badIndex
  | some i =>
    if (s.symbol i).state = .empty then .error .already
    else if 0 < (s.symbol i).refs then .error .inUse
    else .ok (s.setSymbol i { Symbol.reset with refs := (s.symbol i).refs })

/-- READ_SYMBOL's check and effect (R7). -/
def cmdReadSymbol (s : State) : Except Result State :=
  match index? 64 (s.arg 0) with
  | none => .error .badIndex
  | some i => .ok { s with stage := (s.symbol i).stageWords }

/-- DEFINE_SYMBOL (R4, R5). -/
def execDefineSymbol (s : State) : Host.Outcome State Fault Refusal :=
  .next (commandWord .defineSymbol cmdDefineSymbol s)

/-- CLEAR_SYMBOL (R6). -/
def execClearSymbol (s : State) : Host.Outcome State Fault Refusal :=
  .next (commandWord .clearSymbol cmdClearSymbol s)

/-- READ_SYMBOL (R7). -/
def execReadSymbol (s : State) : Host.Outcome State Fault Refusal :=
  .next (commandWord .readSymbol cmdReadSymbol s)

end Sys2Proof.Machine
end

