-- ==== Sys2Proof/Machine/Router.lean ====
section
/-! DEFINITION. What a channel puts out (R62, R63), what each source offers, which source drives a pin, and the
sensed level (chapter 7), with the two commands of the pin router. Nothing here is state of its own: a pin's driver
and level follow from the configuration, the route list and the sources at every instant (section 7.4). -/

namespace Sys2Proof.Machine

/-! ### The level a channel puts out -/

/-- The symbol at a cell position of a descriptor's slot (R59). A position at or beyond the slot's length, which
R30 and R53 exclude for a frame in progress, reads as cell 0 (assumption log 17). -/
def State.cellSymbol (s : State) (d : Descriptor) (pos : Nat) : Symbol :=
  s.symbol (((s.slot d.slot).cells[pos]?).getD 0)

/-- The level of the phase at a context's position (R2, R62). -/
def State.phaseLevel (s : State) (d : Descriptor) (c : Context) : Level :=
  (s.cellSymbol d c.position).levelAt c.phase

/-- A mark as the descriptor's carrier gates it: steady MARK with carrier NONE or a disabled generator, and
otherwise MARK while the generator's output is high (R63). -/
def State.gateMark (s : State) : Option (Fin 2) → Level
  | none => .mark
  | some g => if (s.carrier g).enabled && !(s.carrier g).outputHigh then .space else .mark

/-- The output level of channel n (R62). -/
def State.channelLevel (s : State) (n : Fin 4) : Level :=
  match (s.channel n).state, (s.channel n).queue with
  | .play c, d :: _ =>
    match s.phaseLevel d c with
    | .mark => s.gateMark d.carrier
    | .space => .space
  | _, _ => .space

/-! ### Sources and drivers -/

/-- A channel asserts exactly when it is not IDLE (R64); a generator while it is enabled (R111). -/
def State.asserts (s : State) : Source → Bool
  | .tx n => (s.channel n).state ≠ .idle
  | .cg g => (s.carrier g).enabled

/-- The level a source offers; a generator's high is treated as MARK and its low as SPACE (R111). -/
def State.sourceLevel (s : State) : Source → Level
  | .tx n => s.channelLevel n
  | .cg g => if (s.carrier g).outputHigh then .mark else .space

/-- The driver of a pin: the first source of its route list that asserts; none for the static configuration
(R112). -/
def State.driver (s : State) (p : Fin 8) : Option Source :=
  (s.pin p).route.find? s.asserts

/-- What a drive style puts on the pin for an electrical level; none where the pin is not driven (R113, R114). -/
def DriveStyle.put : DriveStyle → Line → Option Line
  | .pushPull, l => some l
  | .openDrain, .low => some .low
  | .openDrain, .high => none

/-- The electrical level of a source's level under a pin's inversion (R113). -/
def Pin.lineOf (p : Pin) (l : Level) : Line :=
  match l, p.invert with
  | .mark, false => .high
  | .mark, true => .low
  | .space, false => .low
  | .space, true => .high

/-- What the device drives pin p to; none where it does not drive it (R113, R114; R121 while a full reset
lasts). -/
def State.drive (s : State) (p : Fin 8) : Option Line :=
  if s.inReset then none
  else match s.driver p with
    | some x => (s.pin p).style.put ((s.pin p).lineOf (s.sourceLevel x))
    | none =>
      match (s.pin p).mode with
      | .released => none
      | .drive => (s.pin p).style.put (s.pin p).level

/-- The sensed level of pin p, where `outside` says what the circuit outside does: the driven level, unless the outside
opposes it, and then the level that results; the outside's level where the device does not drive the pin (R116;
assumption log 11). -/
def State.sensed (s : State) (outside : Outside) (p : Fin 8) : Line :=
  match s.drive p with
  | some l => if outside.opposes.getLsbD p then lineOfBit (outside.level.getLsbD p) else l
  | none => lineOfBit (outside.level.getLsbD p)

/-- The sensed levels of P0 to P7, bit n for Pn (R117, R186). -/
def State.sensedByte (s : State) (outside : Outside) : BitVec 8 :=
  BitVec.ofBool (s.sensed outside 7).bit ++ BitVec.ofBool (s.sensed outside 6).bit
    ++ BitVec.ofBool (s.sensed outside 5).bit ++ BitVec.ofBool (s.sensed outside 4).bit
    ++ BitVec.ofBool (s.sensed outside 3).bit ++ BitVec.ofBool (s.sensed outside 2).bit
    ++ BitVec.ofBool (s.sensed outside 1).bit ++ BitVec.ofBool (s.sensed outside 0).bit

/-! ### Commands and writes -/

/-- The words of the sources that PIN_ROUTE examines: ARG2 to ARG(1 + c) (R109). -/
def routeWords (s : State) (c : Nat) : List Word := [s.arg 2, s.arg 3, s.arg 4].take c

/-- PIN_ROUTE's checks (R109) and effect (R110). -/
def cmdPinRoute (s : State) : Except Result State :=
  match index? 8 (s.arg 0) with
  | none => .error .badIndex
  | some p =>
    let c := (s.arg 1).toNat
    let codes := routeWords s c
    if 3 < c ∨ codes.any (fun w => 5 < w.toNat) then .error .badArg
    else if ¬ codes.Nodup then .error .duplicate
    else .ok (s.setPin p { s.pin p with route := codes.filterMap sourceOfCode })

/-- A write to PINn_CFG sets static mode, static level, drive style and invert (R107, R186). -/
def writePinCfg (p : Fin 8) (w : Word) (s : State) : State :=
  s.setPin p
    { s.pin p with
      mode := if w.getLsbD 0 then .drive else .released
      level := lineOfBit (w.getLsbD 1)
      style := if w.getLsbD 2 then .openDrain else .pushPull
      invert := w.getLsbD 3 }

/-- PIN_ROUTE (R109, R110). -/
def execPinRoute (s : State) : Host.Outcome State Fault Refusal :=
  .next (commandWord .pinRoute cmdPinRoute s)

/-- PIN_CFG_WRITE (R118). -/
def execPinCfgWrite (p : Fin 8) (w : Word) (s : State) : Host.Outcome State Fault Refusal :=
  .next (completeWord (.pinCfg p) (writePinCfg p w) s)

end Sys2Proof.Machine
end

