-- ==== Sys2Proof/Machine/Port.lean ====
section
/-! DEFINITION. The host port's frames, and what a read of each register shows (sections 12.1, 12.4, 12.5). -/

namespace Sys2Proof.Machine

/-! ### Reading -/

/-- The word that a snapshot of a register loads (R177, R185, R186). PIN_SENSE shows the pins as they stand, with a
free value for what the outside does (R116, R117; assumption logs 10 and 11). -/
def readReg (r : Reg) (s : State) : Word :=
  match r with
  | .cmd => 0
  | .result => s.resultCode ++ s.result.code
  | .arg i => s.args[i]
  | .stage i => s.stage[i]
  | .clOut i => s.clOut[i]
  | .clStatus => clStatusWord s.log.length s.waitList
  | .capOut i => s.capOut[i]
  | .capStatus u => (s.captureUnit u).statusWord
  | .evtPend i => s.pend[i]
  | .evtEn i => s.enable[i]
  | .txCtrl n => (s.channel n).ctrlWord
  | .txStatus n => (s.channel n).statusWord
  | .cgPeriod g => (s.carrier g).periodReg
  | .cgHigh g => (s.carrier g).highReg
  | .cgCtrl g => (s.carrier g).ctrlWord
  | .timebase => 0#12 ++ BitVec.ofNat 4 s.exponent
  | .pinSense => 0#8 ++ s.sensedByte (Config.outside s.freeCount)
  | .pinCfg p => (s.pin p).cfgWord
  | .pinRoute p => (s.pin p).routeWord

/-- A snapshot of the register at the address pointer is loaded (R177). A snapshot of PIN_SENSE draws a free value. -/
def loadSnapshot (s : State) : State :=
  let r := Reg.ofAddr s.port.pointer
  { s with
    port := { s.port with shift := readReg r s }
    freeCount := if r = .pinSense then s.freeCount + 1 else s.freeCount }

/-! ### Frames -/

/-- SEL# falls. A frame begins, in the header phase, unless a full reset is in effect (R175, R179). SEL# can fall only
when it is high. -/
def frameBegin (s : State) : State :=
  if s.selLow then s
  else
    let t := { s with selLow := true }
    if s.inReset then t else { t with port := { s.port with phase := .header, bitCount := 0 } }

/-- The header is complete: direction, increment-inhibit flag and address pointer are set from it and the words phase
is entered (R175). In a read frame the first word's snapshot follows, at the next falling edge of SCK (R177; assumption
log 3). -/
def headerDone (byte : BitVec 8) (s : State) : State :=
  if s.inReset = false ∧ s.port.phase = .header then
    let p : Port :=
      { s.port with
        phase := .words
        direction := if headerReads byte then .read else .write
        inhibit := headerInhibits byte
        pointer := headerAddr byte
        shift := 0 }
    if headerReads byte then loadSnapshot { s with port := p } else { s with port := p }
  else s

/-- SEL# rises: the frame ends at once and an incomplete header or word is discarded (R179). -/
def selRise (s : State) : State :=
  { s with selLow := false, port := { s.port with phase := .noFrame, bitCount := 0, shift := 0 } }

/-- A word of a read frame is complete: the address pointer moves (R176), and the next word's snapshot follows, at the
next falling edge of SCK (R177; assumption log 3). -/
def readWordDone (s : State) : State :=
  if s.AtRead then loadSnapshot { s with port := s.port.advance } else s

/-! ### The lines the port and the event unit drive -/

/-- What the device does with SDO. -/
inductive Sdo where
  | floating
  | driven (bit : Bool)
  deriving DecidableEq, Repr

/-- SDO at the boundary between rows: floating while SEL# is high or a full reset is in effect; low during the header
and in a write frame; the first bit of the snapshot in a read frame (R177). With SEL# low and no frame in progress the
manual states no level (assumption log 13). -/
def State.sdo (s : State) : Sdo :=
  if s.selLow = false ∨ s.inReset then .floating
  else match s.port.phase, s.port.direction with
    | .noFrame, _ => .driven Config.sdoOutsideFrame
    | .header, _ => .driven false
    | .words, .write => .driven false
    | .words, .read => .driven (s.port.shift.getLsbD (15 - s.port.bitCount))

/-- FRAME_BEGIN (R175). -/
def execFrameBegin (s : State) : Host.Outcome State Fault Refusal := .next (frameBegin s)

/-- HEADER (R175). -/
def execHeader (byte : BitVec 8) (s : State) : Host.Outcome State Fault Refusal := .next (headerDone byte s)

/-- SEL_RISE (R179). -/
def execSelRise (s : State) : Host.Outcome State Fault Refusal := .next (selRise s)

/-- READ_WORD_COMPLETION (R176). -/
def execReadWordCompletion (s : State) : Host.Outcome State Fault Refusal := .next (readWordDone s)

end Sys2Proof.Machine
end

