-- ==== Sys2Proof/Machine/Resets.lean ====
section
/-! DEFINITION. The two resets (section 12.3). -/

namespace Sys2Proof.Machine

/-! ### Engine reset -/

/-- A channel after an engine reset: IDLE, its queue empty, its pending flags clear; enabled and the watermark are kept
(R49, R56). -/
def Channel.engineReset (ch : Channel) : Channel :=
  { ch with
    state := .idle, holdPending := false, abortPending := false, resumePending := false, queue := [],
    beatDue := false }

/-- A capture unit after an engine reset: OFF, frame number 0, decoder and log empty; configuration and decode set are
kept (R143, R158, R167). -/
def CaptureUnit.engineReset (c : CaptureUnit) : CaptureUnit :=
  { c with state := .off, frameNumber := 0, pendingList := [], held := none, log := [] }

/-- An engine reset (R184): every block takes its engine-reset values (R3, R20, R49, R56, R91, R93, R106, R122, R143,
R158, R167, R174). -/
def engineReset (s : State) : State :=
  { s with
    slots := mapTable (fun x => { x with frames := 0 }) s.slots
    channels := mapTable Channel.engineReset s.channels
    log := []
    waitList := []
    count := 0
    units := mapTable CaptureUnit.engineReset s.units
    pend := Vector.replicate 2 0 }

/-- ENGINE_RESET has no checks and always gives OK (R184). -/
def cmdEngineReset (s : State) : Except Result State := .ok (engineReset s)

/-- ENGINE_RESET (R184). -/
def execEngineReset (s : State) : Host.Outcome State Fault Refusal :=
  .next (commandWord .engineReset cmdEngineReset s)

/-! ### Full reset -/

/-- Every item of state at its full-reset value (R183); the lines SEL#, RST# and the power-on detector are inputs and
stand as they are, as do the model's own queue and counter. -/
def resetValues (s : State) : State :=
  { State.reset with
    rstLow := s.rstLow, powerHold := s.powerHold, selLow := s.selLow, freeCount := s.freeCount,
    pending := s.pending }

/-- A cause of full reset set or cleared. -/
def State.setCause (c : ResetCause) (on : Bool) (s : State) : State :=
  match c with
  | .rstPin => { s with rstLow := on }
  | .powerOn => { s with powerHold := on }

/-- FULL_RESET: a cause sets in (R183). What the device holds takes its full-reset values at once; nothing can tell
this from taking them at the end, since nothing acts meanwhile (assumption log 15). -/
def execFullReset (c : ResetCause) (s : State) : Host.Outcome State Fault Refusal :=
  .next (resetValues (s.setCause c true))

/-- FULL_RESET_END: a cause ceases. The reset ends when neither holds it, and every item of state then holds its
full-reset value, the timebase count starting from zero (R93, R183). -/
def execFullResetEnd (c : ResetCause) (s : State) : Host.Outcome State Fault Refusal :=
  .next (if s.inReset then resetValues (s.setCause c false) else s)

end Sys2Proof.Machine
end

