-- ==== Sys2Proof/Machine/Sequences.lean ====
section
/-! DEFINITION. The Sequence Store and its six commands (chapter 2). -/

namespace Sys2Proof.Machine

/-- OPEN_SEQ (R21). -/
def cmdOpenSeq (s : State) : Except Result State :=
  match index? 32 (s.arg 0) with
  | none => .error .badIndex
  | some i =>
    if (s.slot i).state ≠ .free then .error .busy
    else .ok (s.setSlot i { s.slot i with state := .opened, cells := [] })

/-- APPEND_SEQ's checks (R22) and effect (R23). -/
def cmdAppendSeq (s : State) : Except Result State :=
  match index? 32 (s.arg 0) with
  | none => .error .badIndex
  | some i =>
    let c := (s.arg 1).toNat
    let batch := symbolIndices (s.stageWords c)
    if (s.slot i).state ≠ .opened then .error .notOpen
    else if c = 0 ∨ 12 < c ∨ (s.stageWords c).any (fun w => 63 < w.toNat) then .error .badArg
    else if batch.any (fun j => (s.symbol j).state = .empty) then .error .notDefined
    else if 32 < (s.slot i).cells.length + c then .error .seqFull
    else .ok ((s.setSlot i { s.slot i with cells := (s.slot i).cells ++ batch }).raiseRefs batch)

/-- SEAL_SEQ (R24). -/
def cmdSealSeq (s : State) : Except Result State :=
  match index? 32 (s.arg 0) with
  | none => .error .badIndex
  | some i =>
    if (s.slot i).state ≠ .opened then .error .notOpen
    else if (s.slot i).cells = [] then .error .empty
    else .ok (s.setSlot i { s.slot i with state := .sealed })

/-- Every cell of slot i is removed, the slot becomes FREE, and the counts of the symbols it named fall (R10). -/
def emptySlot (i : Fin 32) (s : State) : State :=
  (s.setSlot i { s.slot i with state := .free, cells := [] }).lowerRefs (s.slot i).cells

/-- DISCARD_SEQ (R25). -/
def cmdDiscardSeq (s : State) : Except Result State :=
  match index? 32 (s.arg 0) with
  | none => .error .badIndex
  | some i =>
    if (s.slot i).state ≠ .opened then .error .notOpen
    else .ok (emptySlot i s)

/-- FREE_SEQ (R26). -/
def cmdFreeSeq (s : State) : Except Result State :=
  match index? 32 (s.arg 0) with
  | none => .error .badIndex
  | some i =>
    if (s.slot i).state ≠ .sealed then .error .notSealed
    else if 0 < (s.slot i).frames then .error .inUse
    else .ok (emptySlot i s)

/-- READ_SEQ (R27). -/
def cmdReadSeq (s : State) : Except Result State :=
  match index? 32 (s.arg 0) with
  | none => .error .badIndex
  | some i =>
    if 31 < (s.arg 1).toNat then .error .badArg
    else .ok { s with stage := (s.slot i).stageWords (s.arg 1).toNat }

/-- OPEN_SEQ (R21). -/
def execOpenSeq (s : State) : Host.Outcome State Fault Refusal :=
  .next (commandWord .openSeq cmdOpenSeq s)

/-- APPEND_SEQ (R22, R23). -/
def execAppendSeq (s : State) : Host.Outcome State Fault Refusal :=
  .next (commandWord .appendSeq cmdAppendSeq s)

/-- SEAL_SEQ (R24). -/
def execSealSeq (s : State) : Host.Outcome State Fault Refusal :=
  .next (commandWord .sealSeq cmdSealSeq s)

/-- DISCARD_SEQ (R25). -/
def execDiscardSeq (s : State) : Host.Outcome State Fault Refusal :=
  .next (commandWord .discardSeq cmdDiscardSeq s)

/-- FREE_SEQ (R26). -/
def execFreeSeq (s : State) : Host.Outcome State Fault Refusal :=
  .next (commandWord .freeSeq cmdFreeSeq s)

/-- READ_SEQ (R27). -/
def execReadSeq (s : State) : Host.Outcome State Fault Refusal :=
  .next (commandWord .readSeq cmdReadSeq s)

end Sys2Proof.Machine
end

