-- ==== Sys2Proof/Machine/Flags.lean ====
section
/-! DEFINITION. The event unit: the 21 event flags, their enables, IRQ#, and the writes to EVT_PEND and EVT_EN
(chapter 11). -/

namespace Sys2Proof.Machine

/-- The 21 event flags (R168). -/
inductive Flag where
  | txDone (n : Fin 4)
  | txLow (n : Fin 4)
  | txHeld (n : Fin 4)
  | clFull
  | capData (u : Fin 2)
  | capFrame (u : Fin 2)
  | capOvr (u : Fin 2)
  | capStuck (u : Fin 2)
  deriving DecidableEq, Repr

/-- The register of a flag: 0 for EVT_PEND0, 1 for EVT_PEND1 (R168). -/
def Flag.reg : Flag → Fin 2
  | .txDone _ | .txLow _ | .txHeld _ | .clFull => 0
  | .capData _ | .capFrame _ | .capOvr _ | .capStuck _ => 1

/-- The position of a flag in its register (R186). -/
def Flag.bit : Flag → Nat
  | .txDone n => n
  | .txLow n => 4 + n
  | .txHeld n => 8 + n
  | .clFull => 12
  | .capData u => 4 * u
  | .capFrame u => 4 * u + 1
  | .capOvr u => 4 * u + 2
  | .capStuck u => 4 * u + 3

/-- The positions of EVT_EN0 (EVT_EN1) that hold an enable (R186). -/
def evtMask (r : Fin 2) : Word := if r = 0 then 0x1FFF else 0x00FF

/-- A flag becomes pending (R168). -/
def State.setFlag (f : Flag) (s : State) : State :=
  { s with pend := s.pend.set f.reg (s.pend[f.reg] ||| BitVec.twoPow 16 f.bit) }

/-- A flag is pending (R168). -/
def State.flag (s : State) (f : Flag) : Bool := (s.pend[f.reg]).getLsbD f.bit

/-- A flag's enable (R171). -/
def State.flagEnabled (s : State) (f : Flag) : Bool := (s.enable[f.reg]).getLsbD f.bit

/-- The device drives IRQ# low: some flag is pending and enabled (R172), and no full reset is in effect (R174).
Otherwise IRQ# is undriven. -/
def State.irqLow (s : State) : Bool :=
  !s.inReset && ((s.pend[(0 : Fin 2)] &&& s.enable[(0 : Fin 2)]) != 0
    || (s.pend[(1 : Fin 2)] &&& s.enable[(1 : Fin 2)]) != 0)

/-- A write to EVT_PEND clears every flag at whose position the word holds 1 (R169). -/
def writeEvtPend (r : Fin 2) (w : Word) (s : State) : State :=
  { s with pend := s.pend.set r (s.pend[r] &&& ~~~w) }

/-- A write to EVT_EN sets every enable of its register; positions that hold no flag are ignored (R171). -/
def writeEvtEn (r : Fin 2) (w : Word) (s : State) : State :=
  { s with enable := s.enable.set r (w &&& evtMask r) }

/-- EVT_PEND_WRITE (R169). -/
def execEvtPendWrite (r : Fin 2) (w : Word) (s : State) : Host.Outcome State Fault Refusal :=
  .next (completeWord (.evtPend r) (writeEvtPend r w) s)

/-- EVT_EN_WRITE (R171). -/
def execEvtEnWrite (r : Fin 2) (w : Word) (s : State) : Host.Outcome State Fault Refusal :=
  .next (completeWord (.evtEn r) (writeEvtEn r w) s)

end Sys2Proof.Machine
end

