-- ==== Sys2Proof/Machine/CaptureLog.lean ====
section
/-! DEFINITION. The capture logs: writing against a full log, and CAP_POP (chapter 10). -/

namespace Sys2Proof.Machine

/-- A record is an OVERRUN record (R159). -/
def CaptureRecord.isOverrun : CaptureRecord → Bool
  | .overrun _ => true
  | _ => false

/-- The youngest record of a log is an OVERRUN record (R160). -/
def youngestIsOverrun (l : List CaptureRecord) : Bool :=
  match l.getLast? with
  | some r => r.isOverrun
  | none => false

/-- The lost count of an OVERRUN record raised by 1, saturating at 255 (R161). -/
def CaptureRecord.raiseLost : CaptureRecord → CaptureRecord
  | .overrun n => .overrun (saturate255 (n + 1))
  | r => r

/-- The log with its youngest record changed by f. -/
def changeYoungest (f : CaptureRecord → CaptureRecord) (l : List CaptureRecord) : List CaptureRecord :=
  match l.getLast? with
  | some r => l.dropLast ++ [f r]
  | none => l

/-- A record enters the log of unit u at the tail; CAPn_DATA is set when that brings the count to the data
threshold (R164). -/
def enterCaptureLog (u : Fin 2) (r : CaptureRecord) (s : State) : State :=
  let t := s.modUnit u (fun c => { c with log := c.log ++ [r] })
  if (s.captureUnit u).log.length + 1 = (s.captureUnit u).config.threshold then t.setFlag (.capData u) else t

/-- A data record is offered to the log of unit u: written while two or more entries are free, replaced by an OVERRUN
record in the last entry, or discarded into the lost count of the youngest (R160, R161, R165). -/
def offerRecord (u : Fin 2) (r : CaptureRecord) (s : State) : State :=
  let log := (s.captureUnit u).log
  if log.length + 2 ≤ 48 then enterCaptureLog u r s
  else if log.length + 1 = 48 ∧ youngestIsOverrun log = false then
    (enterCaptureLog u (.overrun 1) s).setFlag (.capOvr u)
  else s.modUnit u (fun c => { c with log := changeYoungest .raiseLost c.log })

/-- Data records offered one at a time, in order (R159). -/
def offerAll (u : Fin 2) : List CaptureRecord → State → State
  | [], s => s
  | r :: rest, s => offerAll u rest (offerRecord u r s)

/-- CAP_POP's checks and effect (R162). -/
def cmdCapPop (s : State) : Except Result State :=
  match index? 2 (s.arg 0) with
  | none => .error .badIndex
  | some u =>
    match (s.captureUnit u).log with
    | [] => .error .empty
    | r :: rest => .ok { s.modUnit u (fun c => { c with log := rest }) with capOut := r.words u }

/-- CAP_POP (R162). -/
def execCapPop (s : State) : Host.Outcome State Fault Refusal :=
  .next (commandWord .capPop cmdCapPop s)

end Sys2Proof.Machine
end

