-- ==== Sys2Proof/Machine/Decoder.lean ====
section
/-! DEFINITION. The symbol decoder (chapter 9). The decoder's work on one phase, or on one flush, is a function from
what it holds to what it holds after and the records it forms on the way; the capture log then takes the records one
at a time (R152). -/

namespace Sys2Proof.Machine

/-- A phase as the decoder handles it: `isOpen` marks the open trailing space of an idle timeout (R153). -/
structure Item where
  phase : Phase
  isOpen : Bool
  deriving DecidableEq, Repr

/-- What the decoder holds while it works: the pending list, the held match, and the records formed so far, oldest
first. -/
structure Work where
  list : List Item
  held : Option HeldMatch
  out : List CaptureRecord
  deriving DecidableEq, Repr

/-- The phases of a list of items. -/
def itemPhases (l : List Item) : List Phase := l.map Item.phase

/-- The list ends in the open space. -/
def endsOpen (l : List Item) : Bool :=
  match l.getLast? with
  | some x => x.isOpen
  | none => false

/-- A member of the candidate set for the pending list: the list is a prefix match of it (R148), and a list that
ends in the open space reaches the member's last position (R153). -/
def isCandidate (s : State) (l : List Item) (m : Fin 64) : Bool :=
  (s.symbol m).beginsWith (itemPhases l) && (!endsOpen l || (s.symbol m).lengths.length = l.length)

/-- The candidate set, in set order (R148, R153). -/
def candidates (s : State) (set : List (Fin 64)) (l : List Item) : List (Fin 64) :=
  set.filter (isCandidate s l)

/-- The first full match in set order: a candidate whose phase count equals the length of the list (R148). -/
def firstFull (s : State) (set : List (Fin 64)) (l : List Item) : Option (Fin 64) :=
  (candidates s set l).find? (fun m => (s.symbol m).lengths.length = l.length)

/-- Some candidate is longer than the list (R148). -/
def hasLonger (s : State) (set : List (Fin 64)) (l : List Item) : Bool :=
  (candidates s set l).any (fun m => l.length < (s.symbol m).lengths.length)

/-- The SYMBOL record of a member, with its code read as the record is written (R152). -/
def symbolRecord (s : State) (m : Fin 64) : CaptureRecord := .symbol m (s.symbol m).code

/-- The NOMATCH record of a phase (R152). -/
def noMatchRecord (p : Phase) : CaptureRecord := .noMatch p.level p.length

/-- The fallback: a SYMBOL record for the held match, whose phases leave the list, or a NOMATCH record for the oldest
phase, which leaves it (R150). The phases that remain are in the list, to be replayed. -/
def fallBack (s : State) (w : Work) : Work :=
  match w.held with
  | some h => { list := w.list.drop h.length, held := none, out := w.out ++ [symbolRecord s h.member] }
  | none =>
    match w.list with
    | [] => w
    | x :: rest => { list := rest, held := none, out := w.out ++ [noMatchRecord x.phase] }

/-- The item appended and the first case of R149's table that applies: what the decoder then holds, and the phases to
be replayed first. -/
def takeItem (s : State) (set : List (Fin 64)) (x : Item) (w : Work) : Work × List Item :=
  let l := w.list ++ [x]
  match firstFull s set l, hasLonger s set l with
  | some m, false => ({ list := [], held := none, out := w.out ++ [symbolRecord s m] }, [])
  | some m, true => ({ w with list := l, held := some { member := m, length := l.length } }, [])
  | none, true => ({ w with list := l }, [])
  | none, false =>
    let f := fallBack s { w with list := l }
    ({ f with list := [] }, f.list)

/-- The items taken one at a time, oldest first; phases that remain after a fallback are replayed ahead of those not
yet taken (R151), and the open space is dropped where it would become the first of the list (R153). The first
argument bounds the number of appends; replayBound is always enough (assumption log 28). -/
def takeAll (s : State) (set : List (Fin 64)) : Nat → List Item → Work → Work
  | 0, _, w => w
  | _, [], w => w
  | fuel + 1, x :: rest, w =>
    if x.isOpen ∧ w.list = [] then takeAll s set fuel rest w
    else
      let r := takeItem s set x w
      takeAll s set fuel (r.2 ++ rest) r.1

/-- Each fallback settles at least one phase, so n phases are appended at most n + (n - 1) + … + 1 times. -/
def replayBound (n : Nat) : Nat := (n + 1) * (n + 1)

/-- Items given to a decoder that holds w. -/
def feed (s : State) (set : List (Fin 64)) (items : List Item) (w : Work) : Work :=
  takeAll s set (replayBound (items.length + w.list.length)) items w

/-- One step of a flush (R154). -/
def flushStep (s : State) (set : List (Fin 64)) (w : Work) : Work :=
  match w.list with
  | [] => w
  | x :: rest =>
    if x.isOpen ∧ rest = [] then { w with list := [], held := none }
    else match firstFull s set w.list with
      | some m => { list := [], held := none, out := w.out ++ [symbolRecord s m] }
      | none =>
        let f := fallBack s w
        feed s set f.list { f with list := [] }

/-- The flush: steps until the list is empty (R154). The first argument bounds the steps; each settles at least one
phase. -/
def flushAll (s : State) (set : List (Fin 64)) : Nat → Work → Work
  | 0, w => w
  | fuel + 1, w => if w.list = [] then w else flushAll s set fuel (flushStep s set w)

/-- The work of a decoder that holds what unit u's decoder holds. -/
def CaptureUnit.work (c : CaptureUnit) : Work :=
  { list := c.pendingList.map (fun p => { phase := p, isOpen := false }), held := c.held, out := [] }

/-- Unit u's decoder keeps what a piece of work leaves, and its records are offered to the log (R152). -/
def keepWork (u : Fin 2) (w : Work) (s : State) : State :=
  offerAll u w.out (s.modUnit u (fun c => { c with pendingList := itemPhases w.list, held := w.held }))

/-- The decoder of unit u takes a phase that the unit closed (R149). -/
def decodePhase (u : Fin 2) (p : Phase) (s : State) : State :=
  let c := s.captureUnit u
  keepWork u (feed s c.decodeSet [{ phase := p, isOpen := false }] c.work) s

/-- The decoder of unit u flushes at a frame's end, first taking the open space if one is handed over (R153 to
R155). -/
def decodeFlush (u : Fin 2) (openSpace : Option Phase) (s : State) : State :=
  let c := s.captureUnit u
  let w := match openSpace with
    | some p => feed s c.decodeSet [{ phase := p, isOpen := true }] c.work
    | none => c.work
  keepWork u (flushAll s c.decodeSet (w.list.length + 1) w) s

/-- CAP_DECODE_SET's checks (R145) and effect (R146). Counts rise for the new set and fall for the old within the
one command, so a symbol in both keeps its count (R11). -/
def cmdCapDecodeSet (s : State) : Except Result State :=
  match index? 2 (s.arg 0) with
  | none => .error .badIndex
  | some u =>
    let c := (s.arg 1).toNat
    let set := symbolIndices (s.stageWords c)
    let old := (s.captureUnit u).decodeSet
    if (s.captureUnit u).state ≠ .off then .error .busy
    else if 12 < c ∨ (s.stageWords c).any (fun w => 63 < w.toNat) then .error .badArg
    else if set.any (fun j => (s.symbol j).state = .empty) then .error .notDefined
    else if ¬ set.Nodup then .error .duplicate
    else .ok (((s.raiseRefs set).lowerRefs old).modUnit u (fun x => { x with decodeSet := set }))

/-- CAP_DECODE_SET (R145, R146). -/
def execCapDecodeSet (s : State) : Host.Outcome State Fault Refusal :=
  .next (commandWord .capDecodeSet cmdCapDecodeSet s)

end Sys2Proof.Machine
end

