-- ==== Sys2Proof/Machine/Capture.lean ====
section
/-! DEFINITION. The capture units: configuration, start and stop, sampling and the glitch filter, phases and frame ends
(chapter 8). -/

namespace Sys2Proof.Machine

/-! ### Sampling -/

/-- A sample as MARK or SPACE: SPACE when it equals the rest level (R130). -/
def sampleLevel (rest sensed : Line) : Level := if sensed = rest then .space else .mark

/-- The glitch filter takes a sample: the run becomes 0 on the accepted level and rises by 1 on the other (R131). -/
def Filter.take (l : Level) (f : Filter) : Filter :=
  if l = f.accepted then { f with run := 0 } else { f with run := f.run + 1 }

/-- A unit takes the sample of one beat event. The first sample after CAP_START sets the accepted level (R130); every
later one passes the filter (R131); in IN_FRAME the open phase is one beat event older. -/
def CaptureState.take (l : Level) : CaptureState → CaptureState
  | .off => .off
  | .armed none => .armed (some { accepted := l, run := 0 })
  | .armed (some f) => .armed (some (f.take l))
  | .inFrame f age phases => .inFrame (f.take l) (age + 1) phases
  | .stuck f => .stuck (f.take l)

/-- A unit samples its pin, whose sensed levels are given (R119, R130). -/
def CaptureUnit.sample (sensed : BitVec 8) (c : CaptureUnit) : CaptureUnit :=
  { c with state := c.state.take (sampleLevel c.config.rest (lineOfBit (sensed.getLsbD c.config.pin))) }

/-! ### Accepted edges -/

/-- The filter run has reached F + 1 samples (R131). -/
def edgeReached (c : CaptureConfig) (f : Filter) : Bool := c.filter + 1 ≤ f.run

/-- The filter after the new level is accepted (R131). -/
def Filter.accept (f : Filter) : Filter := { accepted := f.accepted.flip, run := 0 }

/-- A phase that an accepted edge closes goes to RAW recording (R135) or to the decoder (R134). -/
def closePhase (u : Fin 2) (p : Phase) (s : State) : State :=
  match (s.captureUnit u).config.mode with
  | .raw => offerRecord u (.phase p.level p.length) s
  | .decode => decodePhase u p s

/-- Unit u is put in a state of its own. -/
def State.setCapture (u : Fin 2) (x : CaptureState) (s : State) : State :=
  s.modUnit u (fun c => { c with state := x })

/-- ACCEPTED_EDGE: unit u's filter run has reached F + 1 (R131). In ARMED an edge to MARK starts a frame (R133); in
IN_FRAME the edge closes the open phase, of the length from its date to the edge's date, and opens the other (R134);
in STUCK an edge to SPACE ends the stuck line (R137). The edge is dated F beat events back. -/
def acceptedEdge (u : Fin 2) (s : State) : State :=
  let c := s.captureUnit u
  match c.state with
  | .off | .armed none => s
  | .armed (some f) =>
    if edgeReached c.config f then
      match f.accepted with
      | .space => s.setCapture u (.inFrame f.accept c.config.filter 0)
      | .mark => s.setCapture u (.armed (some f.accept))
    else s
  | .inFrame f age phases =>
    if edgeReached c.config f then
      closePhase u { level := f.accepted, length := age - c.config.filter }
        (s.setCapture u (.inFrame f.accept c.config.filter (saturate255 (phases + 1))))
    else s
  | .stuck f =>
    if edgeReached c.config f then
      match f.accepted with
      | .mark => s.setCapture u (.armed (some f.accept))
      | .space => s.setCapture u (.stuck f.accept)
    else s

/-! ### Frame ends -/

/-- In DECODE mode the decoder flushes, with the open space if one is handed over; in RAW mode nothing is written
(R128, R136, R137). -/
def flushUnit (u : Fin 2) (openSpace : Option Phase) (s : State) : State :=
  match (s.captureUnit u).config.mode with
  | .raw => s
  | .decode => decodeFlush u openSpace s

/-- A frame of unit u ends: the decoder flushes, the FRAME_END record is offered, the flag of that kind of end is set,
and the frame number rises by 1 modulo 256 (R128, R136 to R139). -/
def endFrame (u : Fin 2) (openSpace : Option Phase) (phases : Nat) (stuck cut : Bool) (flag : Option Flag)
    (next : CaptureState) (s : State) : State :=
  let number := (s.captureUnit u).frameNumber
  let t := offerRecord u (.frameEnd number phases stuck cut) (flushUnit u openSpace s)
  let t := match flag with
    | some f => t.setFlag f
    | none => t
  t.modUnit u (fun c => { c with frameNumber := number + 1, state := next })

/-- The open space has reached the idle threshold and the sample of this beat event is SPACE (R136). -/
def idleReached (c : CaptureUnit) : Bool :=
  match c.state with
  | .inFrame f age _ => f.accepted = .space && f.run = 0 && c.config.idle ≤ age + 1
  | _ => false

/-- The open mark has reached 65535 beats and the sample of this beat event is MARK (R137). -/
def stuckReached (c : CaptureUnit) : Bool :=
  match c.state with
  | .inFrame f age _ => f.accepted = .mark && f.run = 0 && 65535 ≤ age + 1
  | _ => false

/-- IDLE_TIMEOUT (R136). -/
def idleTimeout (u : Fin 2) (s : State) : State :=
  match (s.captureUnit u).state with
  | .inFrame f age phases =>
    if idleReached (s.captureUnit u) then
      endFrame u (some { level := .space, length := min 65535 (age + 1) }) phases false false (some (.capFrame u))
        (.armed (some f)) s
    else s
  | _ => s

/-- STUCK_MARK (R137). -/
def stuckMark (u : Fin 2) (s : State) : State :=
  match (s.captureUnit u).state with
  | .inFrame f _ phases =>
    if stuckReached (s.captureUnit u) then
      endFrame u none phases true false (some (.capStuck u)) (.stuck f) s
    else s
  | _ => s

/-! ### Commands -/

/-- The mode code in ARG2 of CAP_SETUP: bits 7 to 0, 0 RAW, 1 DECODE (R124, R186). -/
def modeOfCode (w : Word) : Option CaptureMode :=
  if lowByte w = 0 then some .raw else if lowByte w = 1 then some .decode else none

/-- The rest-level code in ARG2 of CAP_SETUP: bits 15 to 8, 0 LOW, 1 HIGH (R124, R186). -/
def restOfCode (w : Word) : Option Line :=
  if highByte w = 0 then some .low else if highByte w = 1 then some .high else none

/-- The configuration in CAP_SETUP's arguments; none where one is out of range (R124). -/
def setupConfig (s : State) : Option CaptureConfig :=
  match index? 8 (s.arg 1), modeOfCode (s.arg 2), restOfCode (s.arg 2) with
  | some p, some m, some r =>
    if 15 < (s.arg 3).toNat ∨ (s.arg 4).toNat = 0 ∨ (s.arg 5).toNat = 0 ∨ 48 < (s.arg 5).toNat then none
    else some
      { pin := p, mode := m, rest := r, filter := (s.arg 3).toNat, idle := (s.arg 4).toNat,
        threshold := (s.arg 5).toNat }
  | _, _, _ => none

/-- CAP_SETUP's checks (R124) and effect (R125). -/
def cmdCapSetup (s : State) : Except Result State :=
  match index? 2 (s.arg 0) with
  | none => .error .badIndex
  | some u =>
    if (s.captureUnit u).state ≠ .off then .error .busy
    else match setupConfig s with
      | none => .error .badArg
      | some c => .ok (s.modUnit u (fun x => { x with config := c }))

/-- CAP_START's checks and effect (R127). -/
def cmdCapStart (s : State) : Except Result State :=
  match index? 2 (s.arg 0) with
  | none => .error .badIndex
  | some u =>
    if (s.captureUnit u).state ≠ .off then .error .already
    else .ok (s.setCapture u (.armed none))

/-- CAP_STOP's checks and effect (R128). -/
def cmdCapStop (s : State) : Except Result State :=
  match index? 2 (s.arg 0) with
  | none => .error .badIndex
  | some u =>
    match (s.captureUnit u).state with
    | .off => .error .already
    | .armed _ | .stuck _ => .ok (s.setCapture u .off)
    | .inFrame _ _ phases => .ok (endFrame u none phases false true none .off s)

/-- CAP_SETUP (R124, R125). -/
def execCapSetup (s : State) : Host.Outcome State Fault Refusal :=
  .next (commandWord .capSetup cmdCapSetup s)

/-- CAP_START (R127). -/
def execCapStart (s : State) : Host.Outcome State Fault Refusal :=
  .next (commandWord .capStart cmdCapStart s)

/-- CAP_STOP (R128). -/
def execCapStop (s : State) : Host.Outcome State Fault Refusal :=
  .next (commandWord .capStop cmdCapStop s)

/-- ACCEPTED_EDGE (R131, R133 to R135, R137). -/
def execAcceptedEdge (u : Fin 2) (s : State) : Host.Outcome State Fault Refusal :=
  .next (internalEvent (acceptedEdge u) s)

/-- IDLE_TIMEOUT (R136). -/
def execIdleTimeout (u : Fin 2) (s : State) : Host.Outcome State Fault Refusal :=
  .next (internalEvent (idleTimeout u) s)

/-- STUCK_MARK (R137). -/
def execStuckMark (u : Fin 2) (s : State) : Host.Outcome State Fault Refusal :=
  .next (internalEvent (stuckMark u) s)

end Sys2Proof.Machine
end

