-- ==== Sys2Proof/Machine/CompletionLog.lean ====
section
/-! DEFINITION. The completion log and its wait list (chapter 5). -/

namespace Sys2Proof.Machine

/-- A record enters the log at the tail and sets TXn_DONE of its channel (R80, R88). -/
def postRecord (r : Completion) (s : State) : State :=
  { s with log := s.log ++ [r] }.setFlag (.txDone r.channel)

/-- CL_FULL is set when an entry of records brings the log from fewer than 16 to 16 (R89). -/
def examineFull (before : Nat) (s : State) : State :=
  if before < 16 ∧ s.log.length = 16 then s.setFlag .clFull else s

/-- Channel n enters HELD, with or without a frame, taking a hold that was pending; TXn_HELD is set (R52, R61,
R67, R68). A beat event that it had still to take finds it HELD with no resume pending (R76). -/
def enterHeld (n : Fin 4) (c : Option Context) (s : State) : State :=
  (s.modChannel n (fun ch => { ch with state := .held c, holdPending := false, beatDue := false })).setFlag
    (.txHeld n)

/-- How channel n goes on once its record is in the log: HELD without a frame if hold pending is set, IDLE
otherwise (R67). A beat event that it had still to take when an ABORT ended its frame finds it IDLE, and reaches it only
if it can start there and then (R57, R76). -/
def afterPosted (n : Fin 4) (s : State) : State :=
  if (s.channel n).holdPending then enterHeld n none s
  else s.modChannel n (fun ch => { ch with state := .idle, beatDue := ch.beatDue && ch.canStart })

/-- A frame-end record is handed to the log: it enters if the log holds fewer than 16 records, and otherwise the
channel enters LOGWAIT with it at the tail of the wait list, where no beat event concerns it (R66, R82). -/
def handRecord (n : Fin 4) (r : Completion) (s : State) : State :=
  if s.log.length < 16 then afterPosted n (examineFull s.log.length (postRecord r s))
  else
    let t := s.modChannel n (fun ch => { ch with state := .logwait r, beatDue := false })
    { t with waitList := t.waitList ++ [n] }

/-- The channel at the head of the wait list leaves it and LOGWAIT, and its record enters the log (R84, step 2). It
starts its next head at a beat event after this (R67, R84). A head that is not in LOGWAIT, which R81 excludes, is left as
it is (assumption log 17). -/
def admitWaiting (s : State) : State :=
  match s.waitList with
  | [] => s
  | n :: rest =>
    match (s.channel n).state with
    | .logwait r => afterPosted n (beatTaken n (postRecord r { s with waitList := rest }))
    | _ => s

/-- CL_POP's check and effect (R84). -/
def cmdClPop (s : State) : Except Result State :=
  match s.log with
  | [] => .error .empty
  | r :: rest => .ok (admitWaiting { s with clOut := r.words, log := rest })

/-- A freed entry is given to the head of the wait list. CL_POP does this within its own step (R84), so this event
finds an entry free and a channel waiting in no state that a run reaches (assumption log 19). -/
def recordAdmission (s : State) : State :=
  if s.log.length < 16 then admitWaiting s else s

/-- CL_POP (R84). -/
def execClPop (s : State) : Host.Outcome State Fault Refusal :=
  .next (commandWord .clPop cmdClPop s)

/-- RECORD_ADMISSION (R84). -/
def execRecordAdmission (s : State) : Host.Outcome State Fault Refusal :=
  .next (internalEvent recordAdmission s)

end Sys2Proof.Machine
end

