-- ==== Sys2Proof/Machine/Channels.lean ====
section
/-! DEFINITION. The transmit channels: playing a frame, frame end, HOLD, RESUME, ABORT, RELEASE, and the writes to
TXn_CTRL (chapter 4). -/

namespace Sys2Proof.Machine

/-! ### The parts of a step -/

/-- Channel n is put in a state of its own. -/
def State.setState (n : Fin 4) (x : ChannelState) (s : State) : State :=
  s.modChannel n (fun ch => { ch with state := x })

/-- The context of the frame in progress, in PLAY, GAP and HELD with a frame (R53). -/
def ChannelState.context : ChannelState → Option Context
  | .play c => some c
  | .gap c => some c
  | .held c => c
  | .idle => none
  | .logwait _ => none

/-- The length of a descriptor's slot (R34). -/
def State.frameLength (s : State) (d : Descriptor) : Nat := (s.slot d.slot).cells.length

/-- A mark that channel n plays while its named generator is disabled sets the carrier-absent flag (R63). -/
def markAbsent (n : Fin 4) (s : State) : State :=
  match (s.channel n).state, (s.channel n).queue with
  | .play c, d :: _ =>
    match d.carrier with
    | some g =>
      if s.phaseLevel d c = .mark ∧ (s.carrier g).enabled = false then
        s.setState n (.play { c with carrierAbsent := true })
      else s
    | none => s
  | _, _ => s

/-- Channel n plays the phase at the context's position and phase position from its first beat (R57, R59). -/
def beginPhase (n : Fin 4) (d : Descriptor) (c : Context) (s : State) : State :=
  let len := (s.cellSymbol d c.position).lengthAt c.phase
  markAbsent n (s.setState n (.play { c with remaining := len }))

/-- Channel n plays the symbol at the context's position from its phase 0 (R59). -/
def beginSymbol (n : Fin 4) (d : Descriptor) (c : Context) (s : State) : State :=
  beginPhase n d { c with phase := 0 } s

/-- Channel n plays the whole gap (R60). -/
def beginGap (n : Fin 4) (d : Descriptor) (c : Context) (s : State) : State :=
  s.setState n (.gap { c with phase := 0, remaining := d.gap })

/-- The context with which a frame starts (R57). -/
def Context.start : Context :=
  { repetition := 1, position := 0, phase := 0, remaining := 0, last := false, carrierAbsent := false,
    completed := 0 }

/-- Channel n starts the head of its queue (R57). -/
def startFrame (n : Fin 4) (s : State) : State :=
  match (s.channel n).queue with
  | d :: _ => beginSymbol n d .start s
  | [] => s

/-- A departure crosses the watermark: the count before is above W and the count after at or below it (R46). -/
def crosses (before after w : Nat) : Bool := w < before && after ≤ w

/-- The crossing as it is examined when the event that removes descriptors also changes W from wOld to wNew. Where
the two answer alike the answer is theirs; where they differ the manual does not say which is meant (assumption
log 12). -/
def crossesEither (before after wOld wNew : Nat) : Bool :=
  if crosses before after wOld = crosses before after wNew then crosses before after wNew
  else if Config.clearingSeesNewWatermark then crosses before after wNew
  else crosses before after wOld

/-- The watermark of channel n is examined after a departure (R47). -/
def examineLow (n : Fin 4) (before after wOld wNew : Nat) (s : State) : State :=
  if crossesEither before after wOld wNew then s.setFlag (.txLow n) else s

/-- The record of a frame that ends (R65). -/
def frameRecord (n : Fin 4) (d : Descriptor) (o : FrameOutcome) (c : Context) : Completion :=
  { channel := n, tag := d.tag, slot := d.slot, outcome := o, completed := c.completed,
    carrierAbsent := c.carrierAbsent }

/-- The frame of channel n ends, with context c (R65): the head leaves the queue, the frame count falls, the
watermark is examined, the flags that end with a frame are cleared, and the record is handed to the log. wOld is
the watermark before the event. -/
def frameEnd (n : Fin 4) (o : FrameOutcome) (c : Context) (wOld : Nat) (s : State) : State :=
  match (s.channel n).queue with
  | [] => s
  | d :: rest =>
    let w := (s.channel n).watermark
    let t := (s.lowerFrames [d]).modChannel n
      (fun ch => { ch with queue := rest, abortPending := false, resumePending := false })
    handRecord n (frameRecord n d o c) (examineLow n (rest.length + 1) rest.length wOld w t)

/-! ### Symbol boundaries -/

/-- What comes after a symbol or a gap. -/
inductive NextStep where
  | symbol
  | gap
  | finish
  deriving DecidableEq, Repr

/-- The repetition in progress is the last (R60). -/
def isLast (d : Descriptor) (c : Context) : Bool :=
  (0 < d.repeats && c.repetition = d.repeats) || c.last

/-- The end of a repetition (R60). -/
def endRepetition (d : Descriptor) (c : Context) : NextStep × Context :=
  if isLast d c then (.finish, c)
  else (.symbol, { c with repetition := saturate255 (c.repetition + 1), position := d.repeatFrom.getD 0 })

/-- The end of the symbol at the context's position, in a slot of length len (R59, R60). -/
def afterSymbol (d : Descriptor) (len : Nat) (c : Context) : NextStep × Context :=
  if c.position + 1 < len then (.symbol, { c with position := c.position + 1 })
  else
    let c' := { c with completed := saturate255 (c.completed + 1), position := len }
    if 0 < d.gap then (.gap, c') else endRepetition d c'

/-- The decision at a symbol boundary whose next step is settled (R61). -/
def boundary (n : Fin 4) (d : Descriptor) (next : NextStep × Context) (s : State) : State :=
  let ch := s.channel n
  if ch.abortPending then frameEnd n .aborted next.2 ch.watermark s
  else match next.1 with
    | .finish => frameEnd n .done next.2 ch.watermark s
    | .symbol =>
      if ch.holdPending then enterHeld n (some { next.2 with phase := 0, remaining := 0 }) s
      else beginSymbol n d next.2 s
    | .gap =>
      if ch.holdPending then enterHeld n (some { next.2 with phase := 0, remaining := 0 }) s
      else beginGap n d next.2 s

/-! ### What a channel does at a beat event -/

/-- START_HEAD: channel n is IDLE with a beat event to take, enabled, and its queue is not empty (R57). -/
def startHead (n : Fin 4) (s : State) : State :=
  let ch := s.channel n
  if ch.beatDue ∧ ch.state = .idle ∧ ch.canStart then startFrame n (beatTaken n s) else s

/-- PHASE_END: channel n is in PLAY and its beats remaining have reached 0 (R58, R59). -/
def phaseEnd (n : Fin 4) (s : State) : State :=
  match (s.channel n).state, (s.channel n).queue with
  | .play c, d :: _ =>
    if c.remaining = 0 then
      if c.phase + 1 < (s.cellSymbol d c.position).lengths.length then
        beginPhase n d { c with phase := c.phase + 1 } (beatTaken n s)
      else boundary n d (afterSymbol d (s.frameLength d) c) (beatTaken n s)
    else s
  | _, _ => s

/-- GAP_END: channel n is in GAP and its beats remaining have reached 0 (R58, R60). -/
def gapEnd (n : Fin 4) (s : State) : State :=
  match (s.channel n).state, (s.channel n).queue with
  | .gap c, d :: _ =>
    if c.remaining = 0 then boundary n d (endRepetition d c) (beatTaken n s) else s
  | _, _ => s

/-- RESUME_TAKEN: channel n is HELD with resume pending and a beat event to take (R70). -/
def resumeTaken (n : Fin 4) (s : State) : State :=
  let ch := s.channel n
  if ch.beatDue ∧ ch.resumePending then
    let t := (beatTaken n s).modChannel n (fun ch => { ch with resumePending := false })
    match ch.state, ch.queue with
    | .held (some c), d :: _ =>
      if c.position = s.frameLength d then beginGap n d c t else beginSymbol n d c t
    | .held none, _ => if ch.canStart then startFrame n t else t.setState n .idle
    | _, _ => s
  else s

/-! ### Host requests -/

/-- HOLD's checks and effect (R68). -/
def cmdHold (s : State) : Except Result State :=
  match index? 4 (s.arg 0) with
  | none => .error .badIndex
  | some n =>
    match (s.channel n).state with
    | .held _ => .error .already
    | .idle => if (s.channel n).holdPending then .error .already else .ok (enterHeld n none s)
    | _ =>
      if (s.channel n).holdPending then .error .already
      else .ok (s.modChannel n (fun ch => { ch with holdPending := true }))

/-- RESUME's checks and effect (R69). -/
def cmdResume (s : State) : Except Result State :=
  match index? 4 (s.arg 0) with
  | none => .error .badIndex
  | some n =>
    match (s.channel n).state with
    | .held _ => .ok (s.modChannel n (fun ch => { ch with resumePending := true }))
    | _ =>
      if (s.channel n).holdPending then .ok (s.modChannel n (fun ch => { ch with holdPending := false }))
      else .error .notHeld

/-- ABORT's checks (R71) and effect (R72). -/
def cmdAbort (s : State) : Except Result State :=
  match index? 4 (s.arg 0) with
  | none => .error .badIndex
  | some n =>
    let ch := s.channel n
    if 1 < (s.arg 1).toNat then .error .badArg
    else match ch.state with
      | .idle | .logwait _ | .held none => .error .noFrame
      | .held (some c) =>
        if s.arg 1 = 1 ∧ ch.abortPending then .error .already
        else .ok (frameEnd n .aborted c ch.watermark s)
      | .play c | .gap c =>
        if s.arg 1 = 1 then
          if ch.abortPending then .error .already
          else .ok (s.modChannel n (fun ch => { ch with abortPending := true }))
        else .ok (frameEnd n .aborted c ch.watermark s)

/-- A context with the last-repetition flag set (R73). -/
def Context.released (c : Context) : Context := { c with last := true }

/-- A channel's state with the last-repetition flag of its context set (R73). -/
def ChannelState.released : ChannelState → ChannelState
  | .play c => .play c.released
  | .gap c => .gap c.released
  | .held (some c) => .held (some c.released)
  | .held none => .held none
  | .idle => .idle
  | .logwait r => .logwait r

/-- RELEASE's checks and effect (R73). -/
def cmdRelease (s : State) : Except Result State :=
  match index? 4 (s.arg 0) with
  | none => .error .badIndex
  | some n =>
    match (s.channel n).state.context, (s.channel n).queue with
    | some c, d :: _ =>
      if isLast d c then .error .already else .ok (s.setState n (s.channel n).state.released)
    | _, _ => .error .noFrame

/-! ### TXn_CTRL -/

/-- The watermark that a written field stores: values above 5 are stored as 5 (R45). -/
def storedWatermark (w : BitVec 3) : Nat := min 5 w.toNat

/-- What clearing a set enable does to channel n after the write has stored it (R74). The channel starts and resumes
nothing at a beat event that it had still to take (R76). -/
def clearEnable (n : Fin 4) (wOld : Nat) (s : State) : State :=
  let t := s.modChannel n
    (fun ch => { ch with holdPending := false, abortPending := false, resumePending := false, beatDue := false })
  match (s.channel n).state with
  | .play c | .gap c | .held (some c) => frameEnd n .aborted c wOld t
  | .held none => t.setState n .idle
  | .idle | .logwait _ => t

/-- A write to TXn_CTRL with the given enable and watermark field: both are stored at the completion of the word,
and clearing a set enable then acts by state (R45, R74). -/
def writeTxCtrl (n : Fin 4) (en : Bool) (w : BitVec 3) (s : State) : State :=
  let old := s.channel n
  let t := s.modChannel n (fun ch => { ch with enabled := en, watermark := storedWatermark w })
  if old.enabled && !en then clearEnable n old.watermark t else t

/-- The enable in a word written to TXn_CTRL: bit 0 (R186). -/
def ctrlEnable (w : Word) : Bool := w.getLsbD 0

/-- The watermark field in a word written to TXn_CTRL: bits 6 to 4 (R186). -/
def ctrlWatermark (w : Word) : BitVec 3 := w.extractLsb' 4 3

/-! ### Meanings -/

/-- ABORT (R71, R72). -/
def execAbort (s : State) : Host.Outcome State Fault Refusal :=
  .next (commandWord .abort cmdAbort s)

/-- RELEASE (R73). -/
def execRelease (s : State) : Host.Outcome State Fault Refusal :=
  .next (commandWord .release cmdRelease s)

/-- HOLD (R68). -/
def execHold (s : State) : Host.Outcome State Fault Refusal :=
  .next (commandWord .hold cmdHold s)

/-- RESUME (R69). -/
def execResume (s : State) : Host.Outcome State Fault Refusal :=
  .next (commandWord .resume cmdResume s)

/-- SETTING_ENABLED: a write of 1 to the enable (R74). -/
def execSettingEnabled (n : Fin 4) (w : BitVec 3) (s : State) : Host.Outcome State Fault Refusal :=
  .next (completeWord (.txCtrl n) (writeTxCtrl n true w) s)

/-- CLEARING_ENABLED: a write of 0 to the enable (R74). -/
def execClearingEnabled (n : Fin 4) (w : BitVec 3) (s : State) : Host.Outcome State Fault Refusal :=
  .next (completeWord (.txCtrl n) (writeTxCtrl n false w) s)

/-- WATERMARK_WRITE: a write to TXn_CTRL (R45). -/
def execWatermarkWrite (n : Fin 4) (w : Word) (s : State) : Host.Outcome State Fault Refusal :=
  .next (completeWord (.txCtrl n) (writeTxCtrl n (ctrlEnable w) (ctrlWatermark w)) s)

/-- START_HEAD (R57). -/
def execStartHead (n : Fin 4) (s : State) : Host.Outcome State Fault Refusal :=
  .next (internalEvent (startHead n) s)

/-- PHASE_END (R58 to R61). -/
def execPhaseEnd (n : Fin 4) (s : State) : Host.Outcome State Fault Refusal :=
  .next (internalEvent (phaseEnd n) s)

/-- GAP_END (R58, R60, R61). -/
def execGapEnd (n : Fin 4) (s : State) : Host.Outcome State Fault Refusal :=
  .next (internalEvent (gapEnd n) s)

/-- RESUME_TAKEN (R70). -/
def execResumeTaken (n : Fin 4) (s : State) : Host.Outcome State Fault Refusal :=
  .next (internalEvent (resumeTaken n) s)

end Sys2Proof.Machine
end

