-- ==== Sys2Proof/Machine/Carriers.lean ====
section
/-! DEFINITION. The two carrier generators (sections 6.3 to 6.6). -/

namespace Sys2Proof.Machine

/-- The period that a period register is applied as (R101, step 1). -/
def appliedPeriod (w : Word) : Nat :=
  if w.toNat < 2 then 2 else if 4095 < w.toNat then 4095 else w.toNat

/-- The high time that a high register is applied as under an applied period (R101, step 2). -/
def appliedHigh (w : Word) (period : Nat) : Nat :=
  if w.toNat = 0 then 1 else if period ≤ w.toNat then period - 1 else w.toNat

/-- The pending pair is made the current pair and ready is cleared (R100, R101). -/
def Carrier.applyPair (c : Carrier) : Carrier :=
  { c with
    period := appliedPeriod c.periodReg
    high := appliedHigh c.highReg (appliedPeriod c.periodReg)
    ready := false }

/-- A ready pair is applied; otherwise nothing changes (R98, R102). -/
def Carrier.applyReady (c : Carrier) : Carrier := if c.ready then c.applyPair else c

/-- A new period begins, at position 0 with the output high (R98, R102). -/
def Carrier.beginPeriod (c : Carrier) : Carrier := { c with position := 0, outputHigh := true }

/-- A period ends and the next begins (R98). -/
def Carrier.endPeriod (c : Carrier) : Carrier := c.applyReady.beginPeriod

/-- The position reaches the high time and the output falls (R98). -/
def Carrier.endHigh (c : Carrier) : Carrier := { c with position := c.high, outputHigh := false }

/-- A write to CGx_PERIOD (R99). -/
def Carrier.writePeriod (w : Word) (c : Carrier) : Carrier :=
  if c.enabled then { c with periodReg := w } else { c with periodReg := w }.applyPair

/-- A write to CGx_HIGH (R99). -/
def Carrier.writeHigh (w : Word) (c : Carrier) : Carrier :=
  if c.enabled then { c with highReg := w, ready := true } else { c with highReg := w }.applyPair

/-- A write of 1 to the enable (R102). -/
def Carrier.turnOn (c : Carrier) : Carrier :=
  if c.enabled then c else { c.applyReady with enabled := true }.beginPeriod

/-- A write of 0 to the enable (R103). The position then has no meaning and stands at 0 (assumption log 27). -/
def Carrier.turnOff (c : Carrier) : Carrier :=
  if c.enabled then { c with enabled := false, position := 0, outputHigh := false } else c

/-- Generator g changed by f. -/
def State.modCarrier (g : Fin 2) (f : Carrier → Carrier) (s : State) : State :=
  s.setCarrier g (f (s.carrier g))

/-- Each channel in a mark of a frame whose generator is disabled sets its carrier-absent flag (R63, R77, R103). -/
def markAllAbsent (s : State) : State :=
  markAbsent 3 (markAbsent 2 (markAbsent 1 (markAbsent 0 s)))

/-- A write to CGx_CTRL stores the enable; the ready flag's position is ignored (R97, R102, R103). -/
def writeCarrierCtrl (g : Fin 2) (en : Bool) (s : State) : State :=
  if en then s.modCarrier g .turnOn
  else if (s.carrier g).enabled then markAllAbsent (s.modCarrier g .turnOff)
  else s

/-- CARRIER_PERIOD_END: the enabled generator's low part has run to the end of its period (R98). -/
def carrierPeriodEnd (g : Fin 2) (s : State) : State :=
  if (s.carrier g).enabled ∧ (s.carrier g).outputHigh = false then s.modCarrier g .endPeriod else s

/-- CARRIER_HIGH_TIME_END: the enabled generator's high part has run to its end (R98). -/
def carrierHighTimeEnd (g : Fin 2) (s : State) : State :=
  if (s.carrier g).enabled ∧ (s.carrier g).outputHigh then s.modCarrier g .endHigh else s

/-- One CLKIN period of a generator: an enabled one counts it (R98). -/
def Carrier.tick (c : Carrier) : Carrier :=
  if c.enabled then
    if c.period ≤ c.position + 1 then c.endPeriod
    else if c.position + 1 = c.high then c.endHigh
    else { c with position := c.position + 1 }
  else c

/-- CGX_PERIOD_WRITE (R99). -/
def execCgxPeriodWrite (g : Fin 2) (w : Word) (s : State) : Host.Outcome State Fault Refusal :=
  .next (completeWord (.cgPeriod g) (State.modCarrier g (.writePeriod w)) s)

/-- CGX_HIGH_WRITE (R99). -/
def execCgxHighWrite (g : Fin 2) (w : Word) (s : State) : Host.Outcome State Fault Refusal :=
  .next (completeWord (.cgHigh g) (State.modCarrier g (.writeHigh w)) s)

/-- CARRIER_ENABLE (R102). -/
def execCarrierEnable (g : Fin 2) (s : State) : Host.Outcome State Fault Refusal :=
  .next (completeWord (.cgCtrl g) (writeCarrierCtrl g true) s)

/-- CARRIER_DISABLE (R103). -/
def execCarrierDisable (g : Fin 2) (s : State) : Host.Outcome State Fault Refusal :=
  .next (completeWord (.cgCtrl g) (writeCarrierCtrl g false) s)

/-- CARRIER_PERIOD_END (R98). -/
def execCarrierPeriodEnd (g : Fin 2) (s : State) : Host.Outcome State Fault Refusal :=
  .next (internalEvent (carrierPeriodEnd g) s)

/-- CARRIER_HIGH_TIME_END (R98). -/
def execCarrierHighTimeEnd (g : Fin 2) (s : State) : Host.Outcome State Fault Refusal :=
  .next (internalEvent (carrierHighTimeEnd g) s)

end Sys2Proof.Machine
end

