-- ==== Sys2Proof/Machine/Queues.lean ====
section
/-! DEFINITION. The frame queues: POST_FRAME and FLUSH (chapter 3). -/

namespace Sys2Proof.Machine

/-- The descriptor that POST_FRAME forms from its arguments for slot i (R33, R38). -/
def postedDescriptor (s : State) (i : Fin 32) : Descriptor :=
  { slot := i
    repeats := (s.arg 2).toNat
    repeatFrom := repeatFromOf (s.arg 3)
    gap := (s.arg 4).toNat
    carrier := carrierOfCode (postCarrierCode (s.arg 5))
    tag := postTag (s.arg 5) }

/-- POST_FRAME's third check, for slot i (R38). -/
def postArgsBad (s : State) (i : Fin 32) : Bool :=
  255 < (s.arg 2).toNat || (s.arg 3 ≠ 0xFFFF && (s.slot i).cells.length ≤ (s.arg 3).toNat)
    || postCarrierCode (s.arg 5) = 3

/-- POST_FRAME's checks (R38) and effect (R39). -/
def cmdPostFrame (s : State) : Except Result State :=
  match index? 4 (s.arg 0), index? 32 (s.arg 1) with
  | some n, some i =>
    if (s.slot i).state ≠ .sealed then .error .notSealed
    else if postArgsBad s i then .error .badArg
    else if 6 ≤ (s.channel n).queue.length then .error .queueFull
    else .ok ((s.modChannel n (fun ch => { ch with queue := ch.queue ++ [postedDescriptor s i] })).raiseFrames i)
  | _, _ => .error .badIndex

/-- The descriptors that stay when FLUSH takes the others: the head of a frame in progress (R41). -/
def Channel.flushKept (ch : Channel) : List Descriptor :=
  if ch.state.context.isSome then ch.queue.take 1 else []

/-- The descriptors that FLUSH selects (R41). -/
def Channel.flushSelected (ch : Channel) : List Descriptor :=
  if ch.state.context.isSome then ch.queue.drop 1 else ch.queue

/-- The FLUSHED record of a descriptor of channel n (R43). -/
def flushedRecord (n : Fin 4) (d : Descriptor) : Completion :=
  { channel := n, tag := d.tag, slot := d.slot, outcome := .flushed, completed := 0, carrierAbsent := false }

/-- FLUSH carried out on channel n (R43). A beat event that an IDLE channel had still to take finds nothing to start: a
descriptor posted later waits for the next one (R39). -/
def flushChannel (n : Fin 4) (s : State) : State :=
  let ch := s.channel n
  let out := ch.flushSelected
  let t := (s.lowerFrames out).modChannel n
    (fun c => { c with queue := ch.flushKept, beatDue := c.beatDue && c.state ≠ .idle })
  let t := { t with log := t.log ++ out.map (flushedRecord n) }.setFlag (.txDone n)
  examineFull s.log.length
    (examineLow n ch.queue.length ch.flushKept.length ch.watermark ch.watermark t)

/-- FLUSH's checks (R42) and effect (R43). -/
def cmdFlush (s : State) : Except Result State :=
  match index? 4 (s.arg 0) with
  | none => .error .badIndex
  | some n =>
    if (s.channel n).flushSelected = [] then .error .empty
    else if 16 - s.log.length < (s.channel n).flushSelected.length then .error .logRoom
    else .ok (flushChannel n s)

/-- POST_FRAME (R38, R39). -/
def execPostFrame (s : State) : Host.Outcome State Fault Refusal :=
  .next (commandWord .postFrame cmdPostFrame s)

/-- FLUSH (R41 to R43). -/
def execFlush (s : State) : Host.Outcome State Fault Refusal :=
  .next (commandWord .flush cmdFlush s)

end Sys2Proof.Machine
end

