-- ==== Sys2Proof/Machine/Timebase.lean ====
section
/-! DEFINITION. The timebase (sections 6.1 and 6.2): SET_TIMEBASE, the beat event and what every block has to do at
it, and the free-running clock. -/

namespace Sys2Proof.Machine

/-! ### SET_TIMEBASE -/

/-- Some channel is not IDLE or some capture unit is not OFF (R94). -/
def State.atWork (s : State) : Bool :=
  s.channels.toList.any (fun ch => ch.state ≠ .idle) || s.units.toList.any (fun c => c.state ≠ .off)

/-- No channel has a beat event left to take. -/
def dropBeat (s : State) : State :=
  { s with channels := mapTable (fun ch => { ch with beatDue := false }) s.channels }

/-- SET_TIMEBASE's checks (R94) and effect (R95). A beat event that a channel has not taken yet when the command arrives
is no longer taken: the channel starts at the first beat event at the new spacing (R95; assumption log 22). -/
def cmdSetTimebase (s : State) : Except Result State :=
  if 12 < (s.arg 0).toNat then .error .badArg
  else if s.atWork then .error .busy
  else .ok { dropBeat s with exponent := (s.arg 0).toNat, count := 0 }

/-! ### What is left to do of a beat event -/

/-- Channel n takes the beat event: what its state has to do at it. -/
def takeBeat (n : Fin 4) (s : State) : State :=
  match (s.channel n).state with
  | .idle => startHead n s
  | .play _ => phaseEnd n s
  | .gap _ => gapEnd n s
  | .held _ => resumeTaken n s
  | .logwait _ => s

/-- The unit's sample has brought about an accepted edge that has not been acted on (R131). -/
def edgeDue (c : CaptureUnit) : Bool :=
  match c.state with
  | .armed (some f) | .inFrame f _ _ | .stuck f => edgeReached c.config f
  | .off | .armed none => false

/-- The unit has something to do at the beat event that it has not done yet (R131, R136, R137). -/
def unitDue (c : CaptureUnit) : Bool := edgeDue c || idleReached c || stuckReached c

/-- Unit u acts on its sample: first an accepted edge, then a frame end (R131, R136, R137). -/
def takeSample (u : Fin 2) (s : State) : State :=
  if edgeDue (s.captureUnit u) then acceptedEdge u s
  else if idleReached (s.captureUnit u) then idleTimeout u s
  else stuckMark u s

/-- The channels with something left to do. -/
def dueChannels (s : State) : List (Fin 4) :=
  ([0, 1, 2, 3] : List (Fin 4)).filter (fun n => channelDue (s.channel n))

/-- Something of a beat event is left to do. -/
def workLeft (s : State) : Bool :=
  unitDue (s.captureUnit 0) || unitDue (s.captureUnit 1) || !(dueChannels s).isEmpty

/-- One thing that is left to do of a beat event is done. The units touch no state that another unit or a channel
touches at it, so they go first (R141; assumption log 23); which of several channels goes first is free (R87, R92;
assumption log 8). -/
def settleOne (s : State) : State :=
  if unitDue (s.captureUnit 0) then takeSample 0 s
  else if unitDue (s.captureUnit 1) then takeSample 1 s
  else match dueChannels s with
    | [] => s
    | [n] => takeBeat n s
    | n :: rest =>
      let l := n :: rest
      takeBeat ((l[Config.channelChoice s.freeCount % l.length]?).getD n) { s with freeCount := s.freeCount + 1 }

/-- Up to k things that are left to do are done. -/
def settleUpTo : Nat → State → State
  | 0, s => s
  | k + 1, s => if workLeft s then settleUpTo k (settleOne s) else s

/-- All that is left to do of a beat event is done: at most one thing for each channel, and an edge and a frame end for
each unit. -/
def settle (s : State) : State := settleUpTo 8 s

/-! ### The beat event -/

/-- A channel meets a beat event: in PLAY and GAP its beats remaining fall by 1 (R58); it then has something to do if
they reached 0, if it can start its head (R57), or if a resume is pending in HELD (R70). -/
def Channel.beat (ch : Channel) : Channel :=
  match ch.state with
  | .play c =>
    { ch with state := .play { c with remaining := c.remaining - 1 }, beatDue := c.remaining ≤ 1 }
  | .gap c =>
    { ch with state := .gap { c with remaining := c.remaining - 1 }, beatDue := c.remaining ≤ 1 }
  | .idle => { ch with beatDue := ch.canStart }
  | .held _ => { ch with beatDue := ch.resumePending }
  | .logwait _ => { ch with beatDue := false }

/-- BEAT_EVENT (R92): what the beat event before left undone is finished first; then every unit samples the levels
that stood immediately before this one (R119), every channel meets it, and the count restarts from zero. What follows
at this beat event (a start, the end of a phase or gap, a resume, an edge, a frame end) are the events of their own
rows (assumption log 7). -/
def beatEvent (outside : Outside) (s : State) : State :=
  let t := settle s
  { t with
    count := 0
    channels := mapTable Channel.beat t.channels
    units := mapTable (CaptureUnit.sample (t.sensedByte outside)) t.units }

/-! ### The free-running clock -/

/-- One CLKIN period (R92, R98): the timebase counts it and produces a beat event when the count reaches 2^k, and
each enabled generator counts it. Where it produces none, the last beat event is past: a mark that a channel still had of
it is gone (assumption log 7). A beat event samples the levels that stood before it, so it is taken before the
generators' changes at the same instant (R119; assumption log 9). -/
def clockPeriod (s : State) : State :=
  let t :=
    if 2 ^ s.exponent ≤ s.count + 1 then
      beatEvent (Config.outside s.freeCount) { s with freeCount := s.freeCount + 1 }
    else { dropBeat s with count := s.count + 1 }
  (t.modCarrier 0 .tick).modCarrier 1 .tick

/-- What the device does with no command waiting: what is left to do of a beat event, else one CLKIN period; nothing
while a full reset lasts (R93; assumption log 5). -/
def runByItself (s : State) : State :=
  if s.inReset then s
  else if workLeft s then settleOne s
  else clockPeriod s

/-- SET_TIMEBASE (R94, R95). -/
def execSetTimebase (s : State) : Host.Outcome State Fault Refusal :=
  .next (commandWord .setTimebase cmdSetTimebase s)

/-- BEAT_EVENT (R92, R58, R119, R130, R131). -/
def execBeatEvent (outside : Outside) (s : State) : Host.Outcome State Fault Refusal :=
  .next (internalEvent (beatEvent outside) s)

end Sys2Proof.Machine
end

