-- ==== Sys2Proof/Machine/Window.lean ====
section
/-! DEFINITION. What a completed word does at each register of the window (R178, R180): BAD_COMMAND and
REGISTER_WRITE. -/

namespace Sys2Proof.Machine

/-- The checks and the effect of each command (section 12.6). -/
def Command.run : Command → State → Except Result State
  | .defineSymbol => cmdDefineSymbol
  | .clearSymbol => cmdClearSymbol
  | .readSymbol => cmdReadSymbol
  | .openSeq => cmdOpenSeq
  | .appendSeq => cmdAppendSeq
  | .sealSeq => cmdSealSeq
  | .discardSeq => cmdDiscardSeq
  | .freeSeq => cmdFreeSeq
  | .readSeq => cmdReadSeq
  | .postFrame => cmdPostFrame
  | .flush => cmdFlush
  | .abort => cmdAbort
  | .release => cmdRelease
  | .hold => cmdHold
  | .resume => cmdResume
  | .clPop => cmdClPop
  | .capSetup => cmdCapSetup
  | .capDecodeSet => cmdCapDecodeSet
  | .capStart => cmdCapStart
  | .capStop => cmdCapStop
  | .capPop => cmdCapPop
  | .setTimebase => cmdSetTimebase
  | .pinRoute => cmdPinRoute
  | .engineReset => cmdEngineReset

/-- A code arrives at CMD: a known code's command is checked and carried out, an unknown one is refused with
BAD_COMMAND (R180). -/
def writeCmd (code : BitVec 8) (s : State) : State :=
  match Command.ofCode code with
  | some c => arrive code (Command.run c) s
  | none => s.setResult code .badCommand

/-- What a completed word does at each register (R178): R/W registers take it, read-only registers ignore it, and a
register with a behaviour of its own acts as its rule says. -/
def writeReg (r : Reg) (w : Word) (s : State) : State :=
  match r with
  | .cmd => writeCmd (lowByte w) s
  | .arg i => { s with args := s.args.set i w }
  | .stage i => { s with stage := s.stage.set i w }
  | .evtPend i => writeEvtPend i w s
  | .evtEn i => writeEvtEn i w s
  | .txCtrl n => writeTxCtrl n (ctrlEnable w) (ctrlWatermark w) s
  | .cgPeriod g => s.modCarrier g (.writePeriod w)
  | .cgHigh g => s.modCarrier g (.writeHigh w)
  | .cgCtrl g => writeCarrierCtrl g (w.getLsbD 0) s
  | .pinCfg p => writePinCfg p w s
  | .result | .clOut _ | .clStatus | .capOut _ | .capStatus _ | .txStatus _ => s
  | .timebase | .pinSense | .pinRoute _ => s

/-- BAD_COMMAND: a word whose low byte names no command is completed at CMD (R180). A code that does name one is no
BAD_COMMAND, and nothing happens. -/
def execBadCommand (code : BitVec 8) (s : State) : Host.Outcome State Fault Refusal :=
  .next (if Command.ofCode code = none then completeWord .cmd (State.setResult code .badCommand) s else s)

/-- REGISTER_WRITE: a word is completed at the register that the address pointer names (R178). -/
def execRegisterWrite (w : Word) (s : State) : Host.Outcome State Fault Refusal :=
  .next (completeWord (Reg.ofAddr s.port.pointer) (writeReg (Reg.ofAddr s.port.pointer) w) s)

end Sys2Proof.Machine
end

