-- ==== Sys2Proof/Machine/Dispatch.lean ====
section
/-! DEFINITION. The dispatch: one arm for each row of the opcode table, in its order, each one call of the row's
meaning. -/

namespace Sys2Proof.Machine

def exec (i : Instr) (s : State) : Host.Outcome State Fault Refusal :=
  match i with
  | .frameBegin => Sys2Proof.Machine.execFrameBegin s
  | .header byte => Sys2Proof.Machine.execHeader byte s
  | .selRise => Sys2Proof.Machine.execSelRise s
  | .fullReset c => Sys2Proof.Machine.execFullReset c s
  | .fullResetEnd c => Sys2Proof.Machine.execFullResetEnd c s
  | .badCommand code => Sys2Proof.Machine.execBadCommand code s
  | .defineSymbol => Sys2Proof.Machine.execDefineSymbol s
  | .clearSymbol => Sys2Proof.Machine.execClearSymbol s
  | .readSymbol => Sys2Proof.Machine.execReadSymbol s
  | .openSeq => Sys2Proof.Machine.execOpenSeq s
  | .appendSeq => Sys2Proof.Machine.execAppendSeq s
  | .sealSeq => Sys2Proof.Machine.execSealSeq s
  | .discardSeq => Sys2Proof.Machine.execDiscardSeq s
  | .freeSeq => Sys2Proof.Machine.execFreeSeq s
  | .readSeq => Sys2Proof.Machine.execReadSeq s
  | .postFrame => Sys2Proof.Machine.execPostFrame s
  | .flush => Sys2Proof.Machine.execFlush s
  | .abort => Sys2Proof.Machine.execAbort s
  | .release => Sys2Proof.Machine.execRelease s
  | .hold => Sys2Proof.Machine.execHold s
  | .resume => Sys2Proof.Machine.execResume s
  | .clPop => Sys2Proof.Machine.execClPop s
  | .capSetup => Sys2Proof.Machine.execCapSetup s
  | .capDecodeSet => Sys2Proof.Machine.execCapDecodeSet s
  | .capStart => Sys2Proof.Machine.execCapStart s
  | .capStop => Sys2Proof.Machine.execCapStop s
  | .capPop => Sys2Proof.Machine.execCapPop s
  | .setTimebase => Sys2Proof.Machine.execSetTimebase s
  | .pinRoute => Sys2Proof.Machine.execPinRoute s
  | .engineReset => Sys2Proof.Machine.execEngineReset s
  | .registerWrite w => Sys2Proof.Machine.execRegisterWrite w s
  | .settingEnabled n w => Sys2Proof.Machine.execSettingEnabled n w s
  | .clearingEnabled n w => Sys2Proof.Machine.execClearingEnabled n w s
  | .watermarkWrite n w => Sys2Proof.Machine.execWatermarkWrite n w s
  | .cgxPeriodWrite g w => Sys2Proof.Machine.execCgxPeriodWrite g w s
  | .cgxHighWrite g w => Sys2Proof.Machine.execCgxHighWrite g w s
  | .carrierEnable g => Sys2Proof.Machine.execCarrierEnable g s
  | .carrierDisable g => Sys2Proof.Machine.execCarrierDisable g s
  | .pinCfgWrite p w => Sys2Proof.Machine.execPinCfgWrite p w s
  | .evtPendWrite r w => Sys2Proof.Machine.execEvtPendWrite r w s
  | .evtEnWrite r w => Sys2Proof.Machine.execEvtEnWrite r w s
  | .beatEvent outside => Sys2Proof.Machine.execBeatEvent outside s
  | .startHead n => Sys2Proof.Machine.execStartHead n s
  | .phaseEnd n => Sys2Proof.Machine.execPhaseEnd n s
  | .gapEnd n => Sys2Proof.Machine.execGapEnd n s
  | .recordAdmission => Sys2Proof.Machine.execRecordAdmission s
  | .resumeTaken n => Sys2Proof.Machine.execResumeTaken n s
  | .carrierPeriodEnd g => Sys2Proof.Machine.execCarrierPeriodEnd g s
  | .carrierHighTimeEnd g => Sys2Proof.Machine.execCarrierHighTimeEnd g s
  | .acceptedEdge u => Sys2Proof.Machine.execAcceptedEdge u s
  | .idleTimeout u => Sys2Proof.Machine.execIdleTimeout u s
  | .stuckMark u => Sys2Proof.Machine.execStuckMark u s
  | .readWordCompletion => Sys2Proof.Machine.execReadWordCompletion s

end Sys2Proof.Machine
end

