-- ==== Sys2Proof/Machine/Step.lean ====
section
/-! DEFINITION. The step: the command or event at the front of the queue; with none waiting, what the device does by
itself. -/

namespace Sys2Proof.Machine

/-- One step. The front of the queue is taken and carried out on the state with the queue's rest; on an empty queue
the device goes on with a beat event or counts one CLKIN period (assumption logs 1 and 5). -/
def step (s : State) : Host.Outcome State Fault Refusal :=
  match s.pending with
  | [] => .next (runByItself s)
  | c :: rest => exec c { s with pending := rest }

/-- s with the command that a word spells put at the front of its queue; s itself where it spells none. -/
def State.withFetchWord (s : State) (nbits w : Nat) : State :=
  match decodeTableWord nbits w with
  | none => s
  | some c => { s with pending := c :: s.pending }

end Sys2Proof.Machine
end

