-- ==== Sys2Proof/Safety.lean ====
section
/-! DEFINITION. What the manual promises of every state between two steps: the equalities and bounds that its rules give
for each block. Each is a condition on one state; that a full reset leaves it and that every step keeps it are
statements of their own. -/

namespace Sys2Proof.Machine

/-! ### The three tables and their counts -/

/-- The number of cells, across all slots, that name symbol i (R8). -/
def State.cellsNaming (s : State) (i : Fin 64) : Nat :=
  (s.slots.toList.map (fun x => x.cells.count i)).sum

/-- The number of decode-set positions, across both units, that name symbol i (R8). -/
def State.positionsNaming (s : State) (i : Fin 64) : Nat :=
  (s.units.toList.map (fun c => c.decodeSet.count i)).sum

/-- The number of descriptors, across the four queues, that name slot i (R28). -/
def State.descriptorsNaming (s : State) (i : Fin 32) : Nat :=
  (s.channels.toList.map (fun ch => ch.queue.countP (fun d => d.slot = i))).sum

/-- A symbol record is as R1 says: an EMPTY one is all zero; a DEFINED one has 1 to 8 lengths of 1 to 65535 beats and
a tolerance of at most 50. -/
def Symbol.Ok (x : Symbol) : Prop :=
  match x.state with
  | .empty => x = Symbol.reset
  | .defined =>
    1 ≤ x.lengths.length ∧ x.lengths.length ≤ 8 ∧ (∀ l ∈ x.lengths, 1 ≤ l ∧ l ≤ 65535) ∧ x.tolerance ≤ 50

/-- A slot is as R18 says: at most 32 cells, none if FREE, at least one if SEALED. -/
def Slot.Ok (x : Slot) : Prop :=
  x.cells.length ≤ 32 ∧ (x.state = .free → x.cells = []) ∧ (x.state = .sealed → x.cells ≠ [])

/-- The tables: every record and slot is as R1 and R18 say, every decode set holds at most 12 indices and none twice
(R144), every reference count is the number of names, and a symbol with a count above zero is DEFINED (R8). -/
def TablesOk (s : State) : Prop :=
  (∀ i, (s.symbol i).Ok) ∧ (∀ i, (s.slot i).Ok)
    ∧ (∀ u, (s.captureUnit u).decodeSet.length ≤ 12 ∧ (s.captureUnit u).decodeSet.Nodup)
    ∧ (∀ i, (s.symbol i).refs = s.cellsNaming i + s.positionsNaming i)
    ∧ (∀ i, 0 < (s.symbol i).refs → (s.symbol i).state = .defined)

/-- The frame queues: at most 6 descriptors each (R36), every frame count the number of descriptors naming the slot,
and a slot with a count above zero SEALED (R28); every descriptor within R33's ranges, its repeat-from a position of
its slot (R30). -/
def QueuesOk (s : State) : Prop :=
  (∀ n, (s.channel n).queue.length ≤ 6)
    ∧ (∀ i, (s.slot i).frames = s.descriptorsNaming i)
    ∧ (∀ i, 0 < (s.slot i).frames → (s.slot i).state = .sealed)
    ∧ (∀ n, ∀ d ∈ (s.channel n).queue,
        d.repeats ≤ 255 ∧ d.gap ≤ 65535 ∧ (∀ f, d.repeatFrom = some f → f < s.frameLength d))

/-! ### The transmit channels -/

/-- A channel's flags and queue are as R52, R53 and R74 say for its state: a context belongs to a head; hold pending
only in PLAY, GAP and LOGWAIT, abort pending only in PLAY and GAP, resume pending only in HELD; a disabled channel is in
IDLE, HELD without a frame or LOGWAIT; the watermark is at most 5 (R45). -/
def Channel.Ok (ch : Channel) : Prop :=
  (ch.state.context.isSome → ch.queue ≠ [])
    ∧ (ch.holdPending = true → ch.state.code = 1 ∨ ch.state.code = 2 ∨ ch.state.code = 5)
    ∧ (ch.abortPending = true → ch.state.code = 1 ∨ ch.state.code = 2)
    ∧ (ch.resumePending = true → ch.state.code = 3 ∨ ch.state.code = 4)
    ∧ (ch.enabled = false → ch.state.context = none)
    ∧ ch.watermark ≤ 5

/-- Every channel is as R52, R53 and R74 say. -/
def ChannelsOk (s : State) : Prop := ∀ n, (s.channel n).Ok

/-- The model's own mark of a beat event to take stands only on a channel that has something to do at that beat event
(assumption log 7). -/
def MarksOk (s : State) : Prop := ∀ n, (s.channel n).beatDue = true → channelDue (s.channel n) = true

/-- The place of a frame in progress is one that its sequence and symbols have (R53): in PLAY the position is a cell
and the phase position a phase of its symbol; in GAP, and in HELD before a gap, the position is the slot's length and
there is a gap to play. -/
def PlaceOk (s : State) (ch : Channel) : Prop :=
  match ch.state, ch.queue with
  | .play c, d :: _ => c.position < s.frameLength d ∧ c.phase < (s.cellSymbol d c.position).lengths.length
  | .gap c, d :: _ => c.position = s.frameLength d ∧ 0 < d.gap
  | .held (some c), d :: _ =>
    c.position < s.frameLength d ∨ (c.position = s.frameLength d ∧ 0 < d.gap)
  | .play _, [] | .gap _, [] | .held (some _), [] => False
  | .idle, _ | .held none, _ | .logwait _, _ => True

/-- Tables, queues and the place of every frame in progress together: what makes a frame play the lengths that stood
when it was posted (R12, R30, R53). -/
def PlayOk (s : State) : Prop :=
  TablesOk s ∧ QueuesOk s ∧ ∀ n, PlaceOk s (s.channel n)

/-- The numbers of a frame in progress are in R53's ranges: repetition 1 to 255 and, with a repeat count above zero, never
above it (R60); at most as many repetitions completed as begun; at most 65535 beats remaining. -/
def Context.Ok (c : Context) (d : Descriptor) : Prop :=
  1 ≤ c.repetition ∧ c.repetition ≤ 255 ∧ (d.repeats ≠ 0 → c.repetition ≤ d.repeats)
    ∧ c.completed ≤ c.repetition ∧ c.remaining ≤ 65535

/-- The repetition in progress has not been counted in repetitions completed, except where both have saturated (R53,
R60). -/
def Context.Uncounted (c : Context) (d : Descriptor) : Prop :=
  c.completed < c.repetition ∨ (d.repeats = 0 ∧ c.repetition = 255)

/-- The current-frame context of a channel is as R53 and R60 say: its numbers in their ranges, the phase position 0 in GAP
and HELD, the beats remaining 0 in HELD, and the repetition in progress counted as completed in GAP and in HELD before a
gap only. -/
def ContextOk (s : State) (ch : Channel) : Prop :=
  match ch.state, ch.queue with
  | .play c, d :: _ => c.Ok d ∧ c.Uncounted d
  | .gap c, d :: _ => c.Ok d ∧ c.phase = 0
  | .held (some c), d :: _ =>
    c.Ok d ∧ c.phase = 0 ∧ c.remaining = 0 ∧ (c.position < s.frameLength d → c.Uncounted d)
  | _, _ => True

/-- Every current-frame context is as R53 and R60 say. -/
def ContextsOk (s : State) : Prop := ∀ n, ContextOk s (s.channel n)

/-! ### The completion log -/

/-- The completion log holds at most 16 records (R80); the wait list holds no channel twice, holds exactly the channels
in LOGWAIT, each with a record of its own, and is empty unless the log holds 16 records (R81). -/
def CompletionLogOk (s : State) : Prop :=
  s.log.length ≤ 16 ∧ s.waitList.Nodup
    ∧ (∀ n, n ∈ s.waitList ↔ ∃ r, (s.channel n).state = .logwait r)
    ∧ (∀ n r, (s.channel n).state = .logwait r → r.channel = n)
    ∧ (s.waitList ≠ [] → s.log.length = 16)

/-- No frame in progress, no waiting record and no record of the log counts more than 255 repetitions completed (R53,
R79). -/
def RecordsOk (s : State) : Prop :=
  (∀ n c, (s.channel n).state.context = some c → c.completed ≤ 255)
    ∧ (∀ n r, (s.channel n).state = .logwait r → r.completed ≤ 255)
    ∧ ∀ r ∈ s.log, r.completed ≤ 255

/-! ### Timebase, carriers, pins, events -/

/-- A generator is as R96 and R98 say: the current pair in range; while enabled the position within the period and the
output high exactly at positions below the high time; while disabled the output low. -/
def Carrier.Ok (c : Carrier) : Prop :=
  2 ≤ c.period ∧ c.period ≤ 4095 ∧ 1 ≤ c.high ∧ c.high ≤ c.period - 1
    ∧ (c.enabled = true → c.position < c.period ∧ (c.outputHigh = true ↔ c.position < c.high))
    ∧ (c.enabled = false → c.outputHigh = false)

/-- Both generators are as R96 and R98 say. -/
def CarriersOk (s : State) : Prop := ∀ g, (s.carrier g).Ok

/-- Each route list holds at most 3 sources with no source twice (R108). -/
def RoutesOk (s : State) : Prop := ∀ p, (s.pin p).route.length ≤ 3 ∧ (s.pin p).route.Nodup

/-- The exponent is at most 12 and the timebase count stands below 2^k (R92). -/
def TimebaseOk (s : State) : Prop := s.exponent ≤ 12 ∧ s.count < 2 ^ s.exponent

/-- Positions of EVT_PEND and EVT_EN that hold no flag read as 0 (R169, R171). -/
def EventsOk (s : State) : Prop :=
  ∀ r : Fin 2, s.pend[r] &&& ~~~(evtMask r) = 0 ∧ s.enable[r] &&& ~~~(evtMask r) = 0

/-! ### The receive side -/

/-- No two consecutive records are both OVERRUN. -/
def separated : List CaptureRecord → Bool
  | a :: b :: rest => !(a.isOverrun && b.isOverrun) && separated (b :: rest)
  | _ => true

/-- A capture log is as R159 and R160 say: at most 48 records, no two consecutive ones both OVERRUN, and a log with no
free entry has an OVERRUN record as its youngest, so that at most 47 are data records; every lost count is 1 to 255
(R161). -/
def CaptureLogOk (l : List CaptureRecord) : Prop :=
  l.length ≤ 48 ∧ separated l = true ∧ (l.length = 48 → youngestIsOverrun l = true)
    ∧ l.countP (fun r => !r.isOverrun) ≤ 47 ∧ (∀ n, CaptureRecord.overrun n ∈ l → 1 ≤ n ∧ n ≤ 255)

/-- Both capture logs are as R159 says. -/
def CaptureLogsOk (s : State) : Prop := ∀ u, CaptureLogOk (s.captureUnit u).log

/-- A decoder is as R147 says: at most 8 pending phases, none unless its unit is IN_FRAME in DECODE mode; the held
match, when present, is of length 1 to 7 and not longer than the pending list. DEDUCED (assumption log 29): R147 says
shorter, but R149 sets a held match of the list's own length, which stands until the next phase. -/
def DecoderOk (c : CaptureUnit) : Prop :=
  c.pendingList.length ≤ 8
    ∧ (c.pendingList ≠ [] → c.state.code = 2 ∧ c.config.mode = .decode)
    ∧ (∀ h, c.held = some h → 1 ≤ h.length ∧ h.length ≤ 7 ∧ h.length ≤ c.pendingList.length)

/-- Both decoders are as R147 says, over a Symbol Table whose records have at most 8 phases (R1). -/
def DecodersOk (s : State) : Prop :=
  (∀ i, (s.symbol i).lengths.length ≤ 8) ∧ ∀ u, DecoderOk (s.captureUnit u)

/-- A capture configuration is in R123's ranges. -/
def CaptureConfig.Ok (c : CaptureConfig) : Prop :=
  c.filter ≤ 15 ∧ 1 ≤ c.idle ∧ c.idle ≤ 65535 ∧ 1 ≤ c.threshold ∧ c.threshold ≤ 48

/-- The length at which an open phase ends its frame: the idle threshold for a space, 65535 for a mark (R136, R137). -/
def CaptureConfig.limit (c : CaptureConfig) : Level → Nat
  | .space => c.idle
  | .mark => 65535

/-- A unit's run state is in R126's ranges under its configuration: a filter run of at most F, or F + 1 while the accepted
edge that it makes is still to be acted on (assumption log 7); in IN_FRAME at most 255 phases, the open phase dated at least F and the run
back, and, while the run is above 0, short of its limit when the run began. -/
def CaptureState.Ok (k : CaptureConfig) : CaptureState → Prop
  | .off | .armed none => True
  | .armed (some f) | .stuck f => f.run ≤ k.filter + 1
  | .inFrame f age phases =>
    f.run ≤ k.filter + 1 ∧ phases ≤ 255 ∧ k.filter + f.run ≤ age
      ∧ (0 < f.run → age - f.run + 1 < k.limit f.accepted)

/-- A capture record's numbers are in R152's and R159's ranges. -/
def CaptureRecord.Ok : CaptureRecord → Prop
  | .phase _ l | .noMatch _ l => 1 ≤ l ∧ l ≤ 65535
  | .frameEnd _ p _ _ => p ≤ 255
  | .symbol _ _ | .overrun _ => True

/-- A unit's configuration, run state, pending phases and records are in the ranges of R123, R126, R147 and R159. -/
def CaptureUnit.Ok (c : CaptureUnit) : Prop :=
  c.config.Ok ∧ c.state.Ok c.config ∧ (∀ p ∈ c.pendingList, 1 ≤ p.length ∧ p.length ≤ 65535)
    ∧ ∀ r ∈ c.log, r.Ok

/-- Both units are in the ranges of R123, R126, R147 and R159. -/
def UnitsOk (s : State) : Prop := ∀ u, (s.captureUnit u).Ok

/-! ### The port and full reset -/

/-- The port is in a frame only while SEL# is low and no full reset is in effect (R175, R179), and between rows no bit of
a header or word has been sampled. -/
def PortOk (s : State) : Prop :=
  (s.port.phase ≠ .noFrame → s.selLow = true ∧ s.inReset = false) ∧ s.port.bitCount = 0

/-- While a full reset is in effect, every item of state holds its full-reset value (R183). -/
def ResetHeld (s : State) : Prop := s.inReset = true → s = resetValues s

end Sys2Proof.Machine
end

