-- ==== Sys2Proof/Certificates/Slice0/Obligations.lean ====
section
/-! DEFINITION. The statements about the device. A statement about a command or an event says the whole next state:
every part of State that it does not name is as it was. -/

namespace Sys2Proof.Stated

open Sys2Proof.Machine

/-! ### Words that the statements share -/

/-- The row of a command that CMD can name. -/
def rowOf : Command → Instr
  | .defineSymbol => .defineSymbol
  | .clearSymbol => .clearSymbol
  | .readSymbol => .readSymbol
  | .openSeq => .openSeq
  | .appendSeq => .appendSeq
  | .sealSeq => .sealSeq
  | .discardSeq => .discardSeq
  | .freeSeq => .freeSeq
  | .readSeq => .readSeq
  | .postFrame => .postFrame
  | .flush => .flush
  | .abort => .abort
  | .release => .release
  | .hold => .hold
  | .resume => .resume
  | .clPop => .clPop
  | .capSetup => .capSetup
  | .capDecodeSet => .capDecodeSet
  | .capStart => .capStart
  | .capStop => .capStop
  | .capPop => .capPop
  | .setTimebase => .setTimebase
  | .pinRoute => .pinRoute
  | .engineReset => .engineReset

/-- The code of each command in the table of section 12.6. -/
def codeNumber : Command → Nat
  | .defineSymbol => 0x01
  | .clearSymbol => 0x02
  | .readSymbol => 0x03
  | .openSeq => 0x08
  | .appendSeq => 0x09
  | .sealSeq => 0x0A
  | .discardSeq => 0x0B
  | .freeSeq => 0x0C
  | .readSeq => 0x0D
  | .postFrame => 0x10
  | .flush => 0x11
  | .abort => 0x12
  | .release => 0x13
  | .hold => 0x14
  | .resume => 0x15
  | .clPop => 0x18
  | .capSetup => 0x20
  | .capDecodeSet => 0x21
  | .capStart => 0x22
  | .capStop => 0x23
  | .capPop => 0x24
  | .setTimebase => 0x28
  | .pinRoute => 0x29
  | .engineReset => 0x3F

/-- The address of each register in the table of R185. -/
def addressNumber : Reg → Nat
  | .cmd => 0x00
  | .result => 0x01
  | .arg i => 0x02 + i
  | .stage i => 0x08 + i
  | .clOut i => 0x14 + i
  | .clStatus => 0x17
  | .capOut i => 0x18 + i
  | .capStatus u => 0x1A + u
  | .evtPend r => 0x1C + r
  | .evtEn r => 0x1E + r
  | .txCtrl n => 0x20 + n
  | .txStatus n => 0x24 + n
  | .cgPeriod g => if g = 0 then 0x28 else 0x2B
  | .cgHigh g => if g = 0 then 0x29 else 0x2C
  | .cgCtrl g => if g = 0 then 0x2A else 0x2D
  | .timebase => 0x2E
  | .pinSense => 0x2F
  | .pinCfg p => 0x30 + p
  | .pinRoute p => 0x38 + p

/-- The number of each result in the table of R181. -/
def resultNumber : Result → Nat
  | .ok => 0
  | .badCommand => 1
  | .badIndex => 2
  | .badArg => 3
  | .inUse => 4
  | .notDefined => 5
  | .notOpen => 6
  | .notSealed => 7
  | .seqFull => 8
  | .empty => 9
  | .queueFull => 10
  | .logRoom => 11
  | .noFrame => 12
  | .notHeld => 13
  | .busy => 14
  | .duplicate => 15
  | .already => 16

/-- The register (0 for EVT_PEND0 and EVT_EN0) and the position of each of the 21 flags in the tables of R168 and
R186. -/
def flagPlace : Flag → Nat × Nat
  | .txDone n => (0, n)
  | .txLow n => (0, 4 + n)
  | .txHeld n => (0, 8 + n)
  | .clFull => (0, 12)
  | .capData u => (1, if u = 0 then 0 else 4)
  | .capFrame u => (1, if u = 0 then 1 else 5)
  | .capOvr u => (1, if u = 0 then 2 else 6)
  | .capStuck u => (1, if u = 0 then 3 else 7)

/-- A bit as a number. -/
def bitOf (b : Bool) : Nat := if b then 1 else 0

/-- The other of the two levels. -/
def opposite : Level → Level
  | .mark => .space
  | .space => .mark

/-- The filter of a unit whose accepted level is present (R126). -/
def filterOf : CaptureState → Option Filter
  | .off => none
  | .armed f => f
  | .inFrame f _ _ => some f
  | .stuck f => some f

/-- The condition on which an event of a channel or a unit comes about (R57, R58, R70, R131, R136, R137). That a channel
has a beat event to take is the model's own mark beatDue (assumption log 7). -/
def DueRow (s : State) : Instr → Prop
  | .startHead n =>
    let ch := s.channel n
    ch.beatDue = true ∧ ch.state = .idle ∧ ch.enabled = true ∧ ch.queue ≠ []
  | .phaseEnd n => ∃ c, (s.channel n).state = .play c ∧ c.remaining = 0 ∧ (s.channel n).queue ≠ []
  | .gapEnd n => ∃ c, (s.channel n).state = .gap c ∧ c.remaining = 0 ∧ (s.channel n).queue ≠ []
  | .resumeTaken n =>
    let ch := s.channel n
    ch.beatDue = true ∧ ch.resumePending = true
      ∧ (ch.state = .held none ∨ ∃ c, ch.state = .held (some c) ∧ ch.queue ≠ [])
  | .acceptedEdge u =>
    ∃ f, filterOf (s.captureUnit u).state = some f ∧ (s.captureUnit u).config.filter + 1 ≤ f.run
  | .idleTimeout u =>
    ∃ f age phases, (s.captureUnit u).state = .inFrame f age phases ∧ f.accepted = .space ∧ f.run = 0
      ∧ (s.captureUnit u).config.idle ≤ age + 1
  | .stuckMark u =>
    ∃ f age phases, (s.captureUnit u).state = .inFrame f age phases ∧ f.accepted = .mark ∧ f.run = 0
      ∧ 65535 ≤ age + 1
  | _ => False

/-- The address pointer after a completed word (R176). -/
def moved (t : State) : State :=
  { t with
    port := { t.port with pointer := if t.port.inhibit then t.port.pointer else t.port.pointer + 1 } }

/-- What the host finds when command c has arrived with result r and left t: RESULT holds the code and the result, and
the pointer has moved (R176, R181). -/
def answered (c : Command) (r : Result) (t : State) : State :=
  moved { t with resultCode := c.code, result := r }

/-- The state with the flag set if the condition holds. -/
def setWhen (p : Prop) [Decidable p] (f : Flag) (t : State) : State := if p then t.setFlag f else t

/-- Every reference count lowered by the cells or positions that go and raised by those that come. -/
def recount (gone come : List (Fin 64)) (s : State) : Vector Symbol 64 :=
  Vector.ofFn (fun j => { s.symbol j with refs := (s.symbol j).refs + come.count j - gone.count j })

/-- The first c STAGE words as symbol indices. -/
def stageIndices (s : State) (c : Nat) : List (Fin 64) :=
  (s.stage.toList.take c).map (fun w => Fin.ofNat 64 w.toNat)

/-- One of the first c STAGE words is above 63. -/
abbrev StageAbove63 (s : State) (c : Nat) : Prop := ∃ p : Fin 12, p.val < c ∧ 63 < (s.stage[p]).toNat

/-- One of the first c STAGE words names an EMPTY symbol. -/
abbrev StageNamesEmpty (s : State) (c : Nat) : Prop := ∃ j ∈ stageIndices s c, (s.symbol j).state = .empty

/-- An ARG0 of n or above is refused with BAD_INDEX, before any other check of the command. -/
def IndexBelow (n : Nat) (c : Command) (s : State) : Prop :=
  n ≤ (s.arg 0).toNat → exec (rowOf c) s = .next (answered c .badIndex s)

/-- A pair of registers as the device applies it (R101). -/
def pairOf (c : Carrier) : Carrier :=
  let p := min 4095 (max 2 c.periodReg.toNat)
  { c with period := p, high := min (p - 1) (max 1 c.highReg.toNat), ready := false }

/-- A channel in a mark of a frame whose generator is disabled, its carrier-absent flag set; any other channel as it is
(R63). -/
def absentMarked (s : State) (ch : Channel) : Channel :=
  match ch.state, ch.queue with
  | .play c, d :: _ =>
    if s.phaseLevel d c = .mark ∧ ∃ g, d.carrier = some g ∧ (s.carrier g).enabled = false then
      { ch with state := .play { c with carrierAbsent := true } }
    else ch
  | _, _ => ch

/-- The context with which descriptor d plays the phase at position pos and phase position ph from its first beat
(R57, R59, R63). -/
def playing (s : State) (d : Descriptor) (c : Context) (pos ph : Nat) : ChannelState :=
  let x := s.cellSymbol d pos
  .play { c with
    position := pos, phase := ph, remaining := x.lengths.getD ph 0
    carrierAbsent := c.carrierAbsent || decide (x.levelAt ph = .mark
      ∧ ∃ g, d.carrier = some g ∧ (s.carrier g).enabled = false) }

/-- The context of a frame that starts (R57). -/
def fresh : Context :=
  { repetition := 1, position := 0, phase := 0, remaining := 0, last := false, carrierAbsent := false, completed := 0 }

/-- The channel is HELD, with a frame or without. -/
def isHeld : ChannelState → Bool
  | .held _ => true
  | _ => false

/-- The repetition in progress is the last (R60). -/
abbrev LastRepetition (d : Descriptor) (c : Context) : Prop :=
  (d.repeats ≠ 0 ∧ c.repetition = d.repeats) ∨ c.last = true

/-- The decision at a symbol boundary of channel n whose next step is to go on in state `go` at cell position pos, with
context c (R61): an abort wins, then a hold, then the next step. -/
def goOn (n : Fin 4) (c : Context) (pos : Nat) (go : ChannelState) (s : State) : State :=
  let ch := s.channel n
  if ch.abortPending then frameEnd n .aborted c ch.watermark s
  else if ch.holdPending then
    (s.setChannel n { ch with
      state := .held (some { c with position := pos, phase := 0, remaining := 0 }), holdPending := false }).setFlag
      (.txHeld n)
  else s.setChannel n { ch with state := go }

/-- The decision at a symbol boundary whose next step is to end the frame (R60, R61). -/
def endFrameNow (n : Fin 4) (c : Context) (s : State) : State :=
  let ch := s.channel n
  frameEnd n (if ch.abortPending then .aborted else .done) c ch.watermark s

/-- The end of a repetition (R60): the frame ends, or the next repetition begins at repeat-from. -/
def afterRepetition (n : Fin 4) (d : Descriptor) (c : Context) (s : State) : State :=
  if LastRepetition d c then endFrameNow n c s
  else
    let c' := { c with repetition := min 255 (c.repetition + 1) }
    let pos := d.repeatFrom.getD 0
    goOn n c' pos (playing s d c' pos 0) s

/-- The number of phases that a decoder record accounts for (R156). -/
def phasesOf (s : State) : CaptureRecord → Nat
  | .symbol i _ => (s.symbol i).lengths.length
  | .noMatch _ _ => 1
  | _ => 0

/-- The phases that a decoder's work accounts for: those it has settled in records and those it still holds. -/
def accountedFor (s : State) (w : Work) : Nat := w.list.length + (w.out.map (phasesOf s)).sum

/-- A decoder's work as it stands between two phases of a frame: no open space, and a held match whose member has as
many phases as it matched, at least one, all of them in the list (R147). -/
def WorkOk (s : State) (w : Work) : Prop :=
  (∀ x ∈ w.list, x.isOpen = false)
    ∧ ∀ h, w.held = some h →
      1 ≤ h.length ∧ h.length ≤ w.list.length ∧ (s.symbol h.member).lengths.length = h.length

/-- Only the last of the items may be an open space (R153). -/
def OpenOnlyLast (items : List Item) : Prop :=
  ∀ before x after, items = before ++ x :: after → x.isOpen = true → after = []

/-- What unit u's decoder holds, as work to go on with. -/
def workOf (c : CaptureUnit) : Work :=
  { list := c.pendingList.map (fun p => { phase := p, isOpen := false }), held := c.held, out := [] }

/-- Unit u's decoder holds what the work w leaves, and the records that w formed are offered to the unit's log one at a
time, in their order (R152). -/
def decoded (u : Fin 2) (w : Work) (s : State) : State :=
  w.out.foldl (fun t r => offerRecord u r t) { s with
    units := s.units.set u { s.captureUnit u with pendingList := w.list.map Item.phase, held := w.held } }

/-- The decoder's work w is flushed (R154): as many steps as the list has phases are enough (assumption log 28). -/
def flushed (s : State) (set : List (Fin 64)) (w : Work) : Work := flushAll s set (w.list.length + 1) w

/-- At a frame end the decoder of a DECODE unit takes the open space, if one is handed over, and flushes (R153 to
R155); of a RAW unit nothing is written. -/
def decoderFlush (u : Fin 2) (openSpace : Option Phase) (s : State) : State :=
  let c := s.captureUnit u
  let items : List Item := openSpace.toList.map (fun p => { phase := p, isOpen := true })
  if c.config.mode = .decode then
    decoded u (flushed s c.decodeSet (feed s c.decodeSet items (workOf c))) s
  else s

/-- A capture record whose numbers are in the ranges that R152 and R159 give them. -/
def RecordInRange : CaptureRecord → Prop
  | .phase _ l | .noMatch _ l => l ≤ 65535
  | .symbol _ _ => True
  | .frameEnd _ p _ _ => p ≤ 255
  | .overrun l => l ≤ 255

end Sys2Proof.Stated

open Sys2Proof Sys2Proof.Machine Sys2Proof.Stated

/-! ### The queue, the clock and the command word -/

/-- A step takes the command at the front of the queue and is exec of it on the state with the queue's rest
(assumption log 1). -/
def Obligations.StepRunsTheFrontOfTheQueue : Prop :=
  ∀ (i : Instr) (rest : List Instr) (s : State), s.pending = i :: rest → step s = exec i { s with pending := rest }

/-- With nothing waiting and nothing left to do of a beat event, a step is one CLKIN period: the timebase counts it and
every enabled generator counts it (R92, R98); at the count of 2^k a beat event is taken, before the generators' count
(R119; assumption log 9), with the outside's levels a free value (assumption log 10); at any other count the last beat
event is past and no channel has it to take any longer (assumption log 7). In a full reset nothing happens (R93). With
something left to do of a beat event, a step is the row of a unit or channel whose condition holds; several channels may
be taken in any order, which draws a free value (assumption log 8). A BEAT_EVENT that finds something left to do does it
first (assumption log 7), at any timebase count (assumption log 6). That an empty queue lets the device go on by itself
is the model's own choice (assumption log 5). -/
def Obligations.EmptyQueueCountsAClockPeriod : Prop :=
  ∀ s : State,
    (s.pending = [] →
      (s.inReset = true → step s = .next s)
      ∧ (s.inReset = false → workLeft s = false →
        (s.count + 1 < 2 ^ s.exponent →
          step s = .next { s with
            count := s.count + 1
            channels := Vector.ofFn (fun n => { s.channel n with beatDue := false })
            carriers := #v[(s.carrier 0).tick, (s.carrier 1).tick] })
        ∧ (s.count + 1 = 2 ^ s.exponent →
          ∃ t, exec (.beatEvent (Config.outside s.freeCount)) { s with freeCount := s.freeCount + 1 } = .next t
            ∧ step s = .next { t with carriers := #v[(t.carrier 0).tick, (t.carrier 1).tick] }))
      ∧ (s.inReset = false → workLeft s = true →
        ∃ i, DueRow s i ∧ (step s = exec i s ∨ step s = exec i { s with freeCount := s.freeCount + 1 })))
    ∧ (workLeft s = true ↔ ∃ i, DueRow s i)
    ∧ ∀ (outside : Outside) (t : State), PlayOk s → s.inReset = false → workLeft s = true →
      step { s with pending := [] } = .next t →
      exec (.beatEvent outside) s = exec (.beatEvent outside) { t with pending := s.pending }

/-- Whatever a beat event brings about comes to an end (R58, R92, R141). That it does so in at most eight pieces is the
model's own division of a beat event (assumption log 7) and its own bound (assumption log 28). -/
def Obligations.BeatWorkComesToAnEnd : Prop :=
  ∀ s : State, PlayOk s → workLeft (settle s) = false

/-- A command that fails a check changes nothing but RESULT, and the pointer moves past CMD (R180, R181). -/
def Obligations.RefusedCommandChangesOnlyResult : Prop :=
  ∀ (c : Command) (r : Result) (s : State), s.AtWrite .cmd → Command.run c s = .error r →
    exec (rowOf c) s = .next (answered c r s)

/-- A word completed at CMD runs the command that its low byte names, whatever its high byte. A low byte that names none
is BAD_COMMAND, which puts the code and that result in RESULT and does nothing else (R180, R181). -/
def Obligations.CmdWordRunsTheCommandItNames : Prop :=
  ∀ (w : Word) (s : State), s.AtWrite .cmd →
    let code : BitVec 8 := BitVec.ofNat 8 w.toNat
    (∀ c : Command, code = c.code → exec (.registerWrite w) s = exec (rowOf c) s)
    ∧ ((∀ c : Command, code ≠ c.code) →
      exec (.registerWrite w) s = .next (moved { s with resultCode := code, result := .badCommand })
      ∧ exec (.badCommand code) s = .next (moved { s with resultCode := code, result := .badCommand }))

/-- A word completed at ARG and STAGE is stored; at a read-only register it does nothing; at a register with a row of
its own it is that row (R178). What the operand of such a row carries of the word is the model's reading (assumption log
25). -/
def Obligations.RegisterWriteFollowsThePointer : Prop :=
  ∀ (w : Word) (s : State),
    (∀ i, s.AtWrite (.arg i) → exec (.registerWrite w) s = .next (moved { s with args := s.args.set i w }))
    ∧ (∀ i, s.AtWrite (.stage i) → exec (.registerWrite w) s = .next (moved { s with stage := s.stage.set i w }))
    ∧ (∀ r, s.AtWrite r → ((∃ i, r = .clOut i) ∨ (∃ i, r = .capOut i) ∨ (∃ u, r = .capStatus u)
        ∨ (∃ n, r = .txStatus n) ∨ (∃ p, r = .pinRoute p) ∨ r = .result ∨ r = .clStatus ∨ r = .timebase
        ∨ r = .pinSense) → exec (.registerWrite w) s = .next (moved s))
    ∧ (∀ n, s.AtWrite (.txCtrl n) → exec (.registerWrite w) s = exec (.watermarkWrite n w) s)
    ∧ (∀ g, s.AtWrite (.cgPeriod g) → exec (.registerWrite w) s = exec (.cgxPeriodWrite g w) s)
    ∧ (∀ g, s.AtWrite (.cgHigh g) → exec (.registerWrite w) s = exec (.cgxHighWrite g w) s)
    ∧ (∀ g, s.AtWrite (.cgCtrl g) →
        exec (.registerWrite w) s = exec (if w.toNat % 2 = 1 then .carrierEnable g else .carrierDisable g) s)
    ∧ (∀ p, s.AtWrite (.pinCfg p) → exec (.registerWrite w) s = exec (.pinCfgWrite p w) s)
    ∧ (∀ r, s.AtWrite (.evtPend r) → exec (.registerWrite w) s = exec (.evtPendWrite r w) s)
    ∧ (∀ r, s.AtWrite (.evtEn r) → exec (.registerWrite w) s = exec (.evtEnWrite r w) s)

/-- Every command has the code that section 12.6 gives it, and a code names the command that has it and no other; every
six-bit address names one register, and every register has the address that R185 gives it and no other (R175, R180). -/
def Obligations.CodesAndAddressesAgree : Prop :=
  (∀ c : Command, Command.ofCode c.code = some c)
    ∧ (∀ (code : BitVec 8) (c : Command), Command.ofCode code = some c → c.code = code)
    ∧ (∀ r : Reg, Reg.ofAddr r.addr = r) ∧ (∀ a : BitVec 6, (Reg.ofAddr a).addr = a)
    ∧ (∀ c : Command, c.code.toNat = codeNumber c) ∧ ∀ r : Reg, r.addr.toNat = addressNumber r

/-- CL_OUT0 to CL_OUT2, and CAP_OUT0 and CAP_OUT1, hold each field of a record at its place (R186). Two records of one
unit's capture log that read back alike are alike, and so are two completion records: no field is lost in the packing (R85,
R163). -/
def Obligations.ReadBackLosesNoField : Prop :=
  (∀ (u v : Fin 2) (a b : CaptureRecord), RecordInRange a → RecordInRange b → a.words u = b.words v →
      a = b ∧ u = v)
    ∧ (∀ a b : Completion, a.completed ≤ 255 → b.completed ≤ 255 → a.words = b.words → a = b)
    ∧ (∀ r : Completion, r.completed ≤ 255 →
      (r.words[0]).toNat = r.channel
          + 4 * (match r.outcome with | .done => 1 | .aborted => 2 | .flushed => 3)
          + 16 * bitOf r.carrierAbsent + 256 * r.tag.toNat
        ∧ (r.words[1]).toNat = r.slot ∧ (r.words[2]).toNat = r.completed)
    ∧ ∀ (u : Fin 2) (r : CaptureRecord), RecordInRange r →
      let shows (w0 w1 : Nat) : Prop := ((r.words u)[0]).toNat = 8 * u + w0 ∧ ((r.words u)[1]).toNat = w1
      match r with
      | .phase level length => shows (1 + 16 * bitOf (level = .mark)) length
      | .symbol index code => shows (2 + 256 * index) code.toNat
      | .noMatch level length => shows (3 + 16 * bitOf (level = .mark)) length
      | .frameEnd number phases stuck cut =>
        shows (4 + 32 * bitOf stuck + 64 * bitOf cut + 256 * number.toNat) phases
      | .overrun lost => shows 5 lost

/-- The registers that show state show each field at its place, and those that hold a word show that word; CMD reads as 0
(R37, R54, R85, R86, R97, R107, R108, R117, R129, R163, R169, R171, R177, R181, R182, R186). The PIN_SENSE clause rests on
the model's own choices: what the circuit outside does at the snapshot is the free value Config.outside at the counter of
free values (assumption log 10), and a pin's level is the outside's where the device does not drive it or is opposed
(assumption log 11). -/
def Obligations.StatusRegistersShowTheirFields : Prop :=
  ∀ s : State, QueuesOk s → ChannelsOk s → CompletionLogOk s → CaptureLogsOk s → TimebaseOk s → RoutesOk s →
    let shows (r : Reg) (k : Nat) : Prop := (readReg r s).toNat = k
    let one (b : Bool) : Nat := bitOf b
    let source : Source → Nat := fun | .tx n => n | .cg g => 4 + g
    let waits (j : Nat) : Nat := match s.waitList[j]? with | some n => n | none => 0
    shows .cmd 0
    ∧ shows .result (256 * s.resultCode.toNat + resultNumber s.result)
    ∧ (∀ i, readReg (.arg i) s = s.args[i]) ∧ (∀ i, readReg (.stage i) s = s.stage[i])
    ∧ (∀ i, readReg (.clOut i) s = s.clOut[i]) ∧ (∀ i, readReg (.capOut i) s = s.capOut[i])
    ∧ (∀ e, readReg (.evtPend e) s = s.pend[e] ∧ readReg (.evtEn e) s = s.enable[e])
    ∧ (∀ g, readReg (.cgPeriod g) s = (s.carrier g).periodReg ∧ readReg (.cgHigh g) s = (s.carrier g).highReg)
    ∧ (∀ n, let ch := s.channel n
      shows (.txStatus n) ((match ch.state with
          | .idle => 0 | .play _ => 1 | .gap _ => 2 | .held none => 3 | .held (some _) => 4 | .logwait _ => 5)
        + 8 * one ch.abortPending + 16 * ch.queue.length + 128 * one ch.holdPending
        + 256 * (match ch.queue with | [] => 0 | d :: _ => d.tag.toNat))
      ∧ shows (.txCtrl n) (one ch.enabled + 16 * ch.watermark))
    ∧ shows .clStatus (s.log.length + 32 * s.waitList.length + 256 * waits 0 + 1024 * waits 1 + 4096 * waits 2
        + 16384 * waits 3)
    ∧ (∀ u, let c := s.captureUnit u
      shows (.capStatus u) ((match c.state with | .off => 0 | .armed _ => 1 | .inFrame _ _ _ => 2 | .stuck _ => 3)
        + 4 * c.log.length + 256 * c.frameNumber.toNat))
    ∧ (∀ g, shows (.cgCtrl g) (one (s.carrier g).enabled + 2 * one (s.carrier g).ready))
    ∧ shows .timebase s.exponent
    ∧ (readReg .pinSense s).toNat < 256
    ∧ (∀ p, let x := s.pin p
      let src (j : Nat) : Nat := match x.route[j]? with | some y => source y | none => 0
      shows (.pinCfg p) (one (x.mode = .drive) + 2 * one (x.level = .high) + 4 * one (x.style = .openDrain)
        + 8 * one x.invert)
      ∧ shows (.pinRoute p) (x.route.length + 16 * src 0 + 256 * src 1 + 4096 * src 2)
      ∧ (readReg .pinSense s).getLsbD p
        = decide (s.sensed (Config.outside s.freeCount) p = .high))

/-- A row that cannot come about where the device stands changes nothing: a word's row at another register or outside the
words phase of a write frame, a header outside the header phase, a read word outside a read frame (R175, R176, R178, R179);
an event of a channel, a unit or a generator whose condition does not hold (R57, R58, R70, R98, R131, R136, R137); and in
a full reset every row but those of the lines (R183). That such a row has no effect is the model's choice (assumption logs 2
and 16), and so is a generator's condition, which asks for its enable and its output's level alone (assumption log 6). -/
def Obligations.RowsOutOfPlaceDoNothing : Prop :=
  ∀ s : State,
    (¬ s.AtWrite .cmd → (∀ c : Command, exec (rowOf c) s = .next s) ∧ ∀ code, exec (.badCommand code) s = .next s)
    ∧ (s.port.phase ≠ .words ∨ s.port.direction = .read → ∀ w, exec (.registerWrite w) s = .next s)
    ∧ (∀ n f w, ¬ s.AtWrite (.txCtrl n) → exec (.settingEnabled n f) s = .next s
      ∧ exec (.clearingEnabled n f) s = .next s ∧ exec (.watermarkWrite n w) s = .next s)
    ∧ (∀ g w, (¬ s.AtWrite (.cgPeriod g) → exec (.cgxPeriodWrite g w) s = .next s)
      ∧ (¬ s.AtWrite (.cgHigh g) → exec (.cgxHighWrite g w) s = .next s)
      ∧ (¬ s.AtWrite (.cgCtrl g) → exec (.carrierEnable g) s = .next s ∧ exec (.carrierDisable g) s = .next s))
    ∧ (∀ p w, ¬ s.AtWrite (.pinCfg p) → exec (.pinCfgWrite p w) s = .next s)
    ∧ (∀ r w, (¬ s.AtWrite (.evtPend r) → exec (.evtPendWrite r w) s = .next s)
      ∧ (¬ s.AtWrite (.evtEn r) → exec (.evtEnWrite r w) s = .next s))
    ∧ (s.port.phase ≠ .header → ∀ byte, exec (.header byte) s = .next s)
    ∧ (s.port.phase ≠ .words ∨ s.port.direction = .write → exec .readWordCompletion s = .next s)
    ∧ (∀ n, (¬ DueRow s (.startHead n) → exec (.startHead n) s = .next s)
      ∧ (¬ DueRow s (.phaseEnd n) → exec (.phaseEnd n) s = .next s)
      ∧ (¬ DueRow s (.gapEnd n) → exec (.gapEnd n) s = .next s)
      ∧ (¬ DueRow s (.resumeTaken n) → exec (.resumeTaken n) s = .next s))
    ∧ (∀ u, (¬ DueRow s (.acceptedEdge u) → exec (.acceptedEdge u) s = .next s)
      ∧ (¬ DueRow s (.idleTimeout u) → exec (.idleTimeout u) s = .next s)
      ∧ (¬ DueRow s (.stuckMark u) → exec (.stuckMark u) s = .next s))
    ∧ (∀ g, ((s.carrier g).enabled = false ∨ (s.carrier g).outputHigh = true →
        exec (.carrierPeriodEnd g) s = .next s)
      ∧ ((s.carrier g).enabled = false ∨ (s.carrier g).outputHigh = false →
        exec (.carrierHighTimeEnd g) s = .next s))
    ∧ (s.selLow = true → exec .frameBegin s = .next s)
    ∧ (s.inReset = false → ∀ c, exec (.fullResetEnd c) s = .next s)
    ∧ (∀ c : Command, exec (.badCommand c.code) s = .next s)
    ∧ (s.inReset = true → ∀ i : Instr, i ≠ .frameBegin → i ≠ .selRise →
      (∀ c, i ≠ .fullReset c ∧ i ≠ .fullResetEnd c) → exec i s = .next s)

/-! ### The host port and the resets -/

/-- SEL# falls: a frame begins in the header phase, and in a full reset only the line changes. SEL# rises: the frame
ends at once and nothing is left of an incomplete header or word (R175, R179). SDO floats while SEL# is high and in a
full reset; otherwise it is low in the header and in a write frame, and where a word of a read frame begins it carries
the snapshot's first bit (R177). While SEL# is low with no frame in progress its level is open (assumption log 13). That
the bit count stands at 0 and SDO is told at the first bit of a word alone is assumption log 4; that the shift register
goes to 0 with the frame is log 21. -/
def Obligations.SelBeginsAndEndsAFrame : Prop :=
  ∀ s : State,
    (s.selLow = false → s.inReset = false →
      exec .frameBegin s = .next { s with selLow := true, port := { s.port with phase := .header, bitCount := 0 } })
    ∧ (s.selLow = false → s.inReset = true → exec .frameBegin s = .next { s with selLow := true })
    ∧ exec .selRise s = .next { s with
        selLow := false, port := { s.port with phase := .noFrame, bitCount := 0, shift := 0 } }
    ∧ (s.selLow = false ∨ s.inReset = true → s.sdo = .floating)
    ∧ (s.selLow = true → s.inReset = false →
      (s.port.phase = .noFrame → s.sdo = .driven Config.sdoOutsideFrame)
      ∧ (s.port.phase = .header → s.sdo = .driven false)
      ∧ (s.port.phase = .words → s.port.direction = .write → s.sdo = .driven false)
      ∧ (s.port.phase = .words → s.port.direction = .read → s.port.bitCount = 0 →
        s.sdo = .driven (decide (2 ^ 15 ≤ s.port.shift.toNat))))

/-- The header gives direction, increment-inhibit flag and register address. In a read frame each word is the register
that the pointer names, as it stands; a completed word moves the pointer, wrapping from 0x3F to 0x00; and reading changes
no other item of the device's state (R175 to R177). Three things are the model's own: the snapshot is taken within the row
(assumption log 3); a snapshot of PIN_SENSE moves the counter of free values, from which the outside's levels are drawn
(assumption log 10); the shift register stands at 0 in a write frame (assumption log 21). -/
def Obligations.HeaderAndReadWords : Prop :=
  ∀ s : State, s.inReset = false →
    let draws (r : Reg) : Nat := if r = .pinSense then s.freeCount + 1 else s.freeCount
    (∀ byte : BitVec 8, s.port.phase = .header →
      let a := BitVec.ofNat 6 byte.toNat
      let p : Port := { s.port with
        phase := .words, inhibit := decide (64 ≤ byte.toNat % 128), pointer := a }
      exec (.header byte) s = .next (
        if byte.toNat < 128 then { s with port := { p with direction := .write, shift := 0 } }
        else { s with
          port := { p with direction := .read, shift := readReg (Reg.ofAddr a) s }
          freeCount := draws (Reg.ofAddr a) }))
    ∧ (s.port.phase = .words → s.port.direction = .read →
      let a := if s.port.inhibit then s.port.pointer else BitVec.ofNat 6 ((s.port.pointer.toNat + 1) % 64)
      exec .readWordCompletion s = .next { s with
        port := { s.port with pointer := a, shift := readReg (Reg.ofAddr a) s }
        freeCount := draws (Reg.ofAddr a) })

/-- A full reset ends when neither cause holds it, and every item of state then holds its reset value (R183): the values
of R3, R20, R55, R91, R93, R106, R121, R142, R158, R167, R174, R182 and R185. The lines, the model's queue and its
counter of free values stand as they are. That the items take those values already when the reset sets in is assumption
log 15; that the cause is an operand is assumption log 16; the values of the port's remembered items and of the model's
own marks are log 14. -/
def Obligations.FullResetSetsEveryItem : Prop :=
  (∀ s : State,
    exec (.fullReset .rstPin) s = .next { State.reset with
        rstLow := true, powerHold := s.powerHold, selLow := s.selLow, freeCount := s.freeCount, pending := s.pending }
    ∧ exec (.fullReset .powerOn) s = .next { State.reset with
        rstLow := s.rstLow, powerHold := true, selLow := s.selLow, freeCount := s.freeCount, pending := s.pending }
    ∧ (s.inReset = true →
      exec (.fullResetEnd .rstPin) s = .next { State.reset with
          rstLow := false, powerHold := s.powerHold, selLow := s.selLow, freeCount := s.freeCount
          pending := s.pending }
      ∧ exec (.fullResetEnd .powerOn) s = .next { State.reset with
          rstLow := s.rstLow, powerHold := false, selLow := s.selLow, freeCount := s.freeCount
          pending := s.pending }))
    ∧ let z := State.reset;
    (∀ r : Reg, r ≠ .pinSense →
      (readReg r z).toNat = match r with | .cgPeriod _ => 2 | .cgHigh _ => 1 | _ => 0)
    ∧ (∀ i, z.symbol i = { state := .empty, lead := .mark, lengths := [], tolerance := 0, code := 0, refs := 0 })
    ∧ (∀ i, z.slot i = { state := .free, cells := [], frames := 0 })
    ∧ (∀ n, let ch := z.channel n
      ch.state = .idle ∧ ch.enabled = false ∧ ch.holdPending = false ∧ ch.abortPending = false
        ∧ ch.resumePending = false ∧ ch.watermark = 0 ∧ ch.queue = [])
    ∧ z.log = [] ∧ z.waitList = [] ∧ z.exponent = 0 ∧ z.count = 0
    ∧ (∀ g, let c := z.carrier g
      c.enabled = false ∧ c.periodReg = 2 ∧ c.highReg = 1 ∧ c.ready = false ∧ c.period = 2 ∧ c.high = 1
        ∧ c.outputHigh = false)
    ∧ (∀ p, z.pin p = { mode := .released, level := .low, style := .pushPull, invert := false, route := [] })
    ∧ (∀ u, z.captureUnit u = {
        config := { pin := 0, mode := .raw, rest := .high, filter := 0, idle := 65535, threshold := 1 }
        state := .off, frameNumber := 0, decodeSet := [], pendingList := [], held := none, log := [] })
    ∧ (∀ f : Flag, z.flag f = false ∧ z.flagEnabled f = false) ∧ z.port.phase = .noFrame

/-- ENGINE_RESET stops every channel and unit, empties queues, logs, lists, decoders and pending flags, zeroes frame
counts, frame numbers and the timebase count, and keeps the rest (R3, R20, R49, R56, R91, R93, R143, R158, R167, R174,
R184). A beat event that a channel has not taken is dropped with them, which is the model's reading (assumption log
22). -/
def Obligations.EngineResetStopsAndKeeps : Prop :=
  ∀ s : State, s.AtWrite .cmd →
    exec .engineReset s = .next (answered .engineReset .ok { s with
      slots := Vector.ofFn (fun i => { s.slot i with frames := 0 })
      channels := Vector.ofFn (fun n => { Channel.reset with
        enabled := (s.channel n).enabled, watermark := (s.channel n).watermark })
      log := [], waitList := [], count := 0
      units := Vector.ofFn (fun u => { CaptureUnit.reset with
        config := (s.captureUnit u).config, decodeSet := (s.captureUnit u).decodeSet })
      pend := #v[0, 0] })

/-! ### Symbols and sequences -/

/-- DEFINE_SYMBOL checks its arguments, then the count, and writes the whole record (R4, R5). CLEAR_SYMBOL returns a
DEFINED record that nothing names to EMPTY (R6). -/
def Obligations.DefineAndClearWriteTheRecord : Prop :=
  ∀ s : State, s.AtWrite .cmd → IndexBelow 64 .defineSymbol s ∧ IndexBelow 64 .clearSymbol s
    ∧ ∀ i : Fin 64, (s.arg 0).toNat = i →
    exec .defineSymbol s = .next (
      if 1 < (s.arg 1).toNat ∨ (s.arg 2).toNat = 0 ∨ 8 < (s.arg 2).toNat ∨ 50 < (s.arg 3).toNat
          ∨ 255 < (s.arg 4).toNat ∨ ∃ p : Fin 12, p.val < (s.arg 2).toNat ∧ s.stage[p] = 0 then
        answered .defineSymbol .badArg s
      else if 0 < (s.symbol i).refs then answered .defineSymbol .inUse s
      else answered .defineSymbol .ok { s with symbols := s.symbols.set i {
        state := .defined
        lead := if (s.arg 1).toNat = 0 then .mark else .space
        lengths := (s.stage.toList.take (s.arg 2).toNat).map BitVec.toNat
        tolerance := (s.arg 3).toNat, code := BitVec.ofNat 8 (s.arg 4).toNat, refs := 0 } })
    ∧ exec .clearSymbol s = .next (
      if (s.symbol i).state = .empty then answered .clearSymbol .already s
      else if 0 < (s.symbol i).refs then answered .clearSymbol .inUse s
      else answered .clearSymbol .ok { s with symbols := s.symbols.set i Symbol.reset })

/-- READ_SYMBOL and READ_SEQ write all twelve STAGE words, packed as R186 gives them, and change nothing else but RESULT
(R7, R27). -/
def Obligations.ReadCommandsFillStage : Prop :=
  ∀ s : State, s.AtWrite .cmd → TablesOk s →
    IndexBelow 64 .readSymbol s ∧ IndexBelow 32 .readSeq s
    ∧ (∀ i : Fin 64, (s.arg 0).toNat = i →
      let x := s.symbol i
      exec .readSymbol s = .next (answered .readSymbol .ok { s with stage := Vector.ofFn (fun p => BitVec.ofNat 16 (
        if p.val < 8 then x.lengths.getD p 0
        else if p.val = 8 then
          256 * x.lengths.length + (if x.lead = .space then 2 else 0) + (if x.state = .defined then 1 else 0)
        else if p.val = 9 then x.tolerance
        else if p.val = 10 then x.code.toNat
        else x.refs)) }))
    ∧ ∀ i : Fin 32, (s.arg 0).toNat = i →
      let x := s.slot i
      exec .readSeq s = .next (
        if 31 < (s.arg 1).toNat then answered .readSeq .badArg s
        else answered .readSeq .ok { s with stage := Vector.ofFn (fun p => BitVec.ofNat 16 (
          if p.val = 0 then
            256 * x.cells.length + (match x.state with | .free => 0 | .opened => 1 | .sealed => 2)
          else if p.val = 1 then x.frames
          else match x.cells[(s.arg 1).toNat + (p.val - 2)]? with
            | some c => c.val
            | none => 0xFF)) })

/-- A measured length matches a nominal length n at tolerance t exactly when it lies from n − d to n + d, where d is the
whole part of t × n / 100 (R14 from R13). A phase matches a phase position of a DEFINED symbol when its level is the
position's, which is the lead at even positions and the other level at odd ones (R2), and its length matches; a list is a
prefix match when each of its phases matches the position of its own, and a full match when it has as many phases as the
symbol (R13, R15). -/
def Obligations.MatchingLengthsFormOneRange : Prop :=
  (∀ m n t : Nat, t ≤ 50 → (withinTolerance m n t = true ↔ n - t * n / 100 ≤ m ∧ m ≤ n + t * n / 100))
    ∧ ∀ x : Machine.Symbol,
      (∀ p, x.levelAt p = if p % 2 = 0 then x.lead else opposite x.lead)
      ∧ (∀ (p : Nat) (ph : Phase), x.tolerance ≤ 50 →
        (x.matchesAt p ph = true ↔ x.state = .defined ∧ ∃ n, x.lengths[p]? = some n ∧ ph.level = x.levelAt p
          ∧ n - x.tolerance * n / 100 ≤ ph.length ∧ ph.length ≤ n + x.tolerance * n / 100))
      ∧ ∀ l : List Phase,
        (x.beginsWith l = true ↔ x.state = .defined ∧ l.length ≤ x.lengths.length
          ∧ ∀ p ph, l[p]? = some ph → x.matchesAt p ph = true)
        ∧ (x.fullMatch l = true ↔ x.beginsWith l = true ∧ l.length = x.lengths.length)

/-- OPEN_SEQ, SEAL_SEQ, DISCARD_SEQ and FREE_SEQ move a slot between FREE, OPEN and SEALED; the last two lower each
symbol's count by the cells that named it (R10, R19, R21, R24 to R26). -/
def Obligations.SlotCommandsMoveASlot : Prop :=
  ∀ s : State, s.AtWrite .cmd →
    IndexBelow 32 .openSeq s ∧ IndexBelow 32 .sealSeq s ∧ IndexBelow 32 .discardSeq s ∧ IndexBelow 32 .freeSeq s
    ∧ ∀ i : Fin 32, (s.arg 0).toNat = i →
    let x := s.slot i
    let put (y : SlotState) (l : List (Fin 64)) : State := { s with
      slots := s.slots.set i { state := y, cells := l, frames := x.frames } }
    let emptied : State := { put .free [] with symbols := recount x.cells [] s }
    exec .openSeq s = .next (
        if x.state ≠ .free then answered .openSeq .busy s else answered .openSeq .ok (put .opened []))
    ∧ exec .sealSeq s = .next (
        if x.state ≠ .opened then answered .sealSeq .notOpen s
        else if x.cells.length = 0 then answered .sealSeq .empty s
        else answered .sealSeq .ok (put .sealed x.cells))
    ∧ exec .discardSeq s = .next (
        if x.state ≠ .opened then answered .discardSeq .notOpen s else answered .discardSeq .ok emptied)
    ∧ exec .freeSeq s = .next (
        if x.state ≠ .sealed then answered .freeSeq .notSealed s
        else if 0 < x.frames then answered .freeSeq .inUse s
        else answered .freeSeq .ok emptied)

/-- APPEND_SEQ adds its batch in order and raises each symbol's count by the cells that name it; all or nothing (R9, R22,
R23). -/
def Obligations.AppendSeqAddsCellsAndCounts : Prop :=
  ∀ s : State, s.AtWrite .cmd → IndexBelow 32 .appendSeq s ∧ ∀ i : Fin 32, (s.arg 0).toNat = i →
    let c := (s.arg 1).toNat
    exec .appendSeq s = .next (
      if (s.slot i).state ≠ .opened then answered .appendSeq .notOpen s
      else if c = 0 ∨ 12 < c ∨ StageAbove63 s c then answered .appendSeq .badArg s
      else if StageNamesEmpty s c then answered .appendSeq .notDefined s
      else if 32 < (s.slot i).cells.length + c then answered .appendSeq .seqFull s
      else answered .appendSeq .ok { s with
        slots := s.slots.set i { s.slot i with cells := (s.slot i).cells ++ stageIndices s c }
        symbols := recount [] (stageIndices s c) s })

/-! ### Frame queues -/

/-- POST_FRAME's checks in their order, and the descriptor at the tail of the queue with the slot's frame count raised
(R29, R38, R39). -/
def Obligations.PostFrameQueuesADescriptor : Prop :=
  ∀ s : State, s.AtWrite .cmd → IndexBelow 4 .postFrame s
    ∧ (32 ≤ (s.arg 1).toNat → exec .postFrame s = .next (answered .postFrame .badIndex s))
    ∧ ∀ (n : Fin 4) (i : Fin 32), (s.arg 0).toNat = n → (s.arg 1).toNat = i →
    let carrier := (s.arg 5).toNat / 256 % 4
    exec .postFrame s = .next (
      if (s.slot i).state ≠ .sealed then answered .postFrame .notSealed s
      else if 255 < (s.arg 2).toNat ∨ carrier = 3
          ∨ ((s.arg 3).toNat ≠ 65535 ∧ (s.slot i).cells.length ≤ (s.arg 3).toNat) then
        answered .postFrame .badArg s
      else if 6 ≤ (s.channel n).queue.length then answered .postFrame .queueFull s
      else answered .postFrame .ok { s with
        channels := s.channels.set n { s.channel n with queue := (s.channel n).queue ++ [{
          slot := i, repeats := (s.arg 2).toNat
          repeatFrom := if (s.arg 3).toNat = 65535 then none else some (s.arg 3).toNat
          gap := (s.arg 4).toNat
          carrier := if carrier = 1 then some 0 else if carrier = 2 then some 1 else none
          tag := BitVec.ofNat 8 (s.arg 5).toNat }] }
        slots := s.slots.set i { s.slot i with frames := (s.slot i).frames + 1 } })

/-- FLUSH takes every descriptor but the head of a frame in progress, lowers the frame counts, and logs one FLUSHED
record for each in queue order, all or nothing (R41 to R43, R46, R47, R88, R89). An IDLE channel has then no beat event
left to take (the model's own mark, assumption log 7), so what is posted later waits for the next one (R39). -/
def Obligations.FlushLogsEveryDescriptorItTakes : Prop :=
  ∀ s : State, s.AtWrite .cmd → IndexBelow 4 .flush s ∧ ∀ n : Fin 4, (s.arg 0).toNat = n →
    let ch := s.channel n
    let keep := if ch.state.context.isSome then 1 else 0
    let out := ch.queue.drop keep
    exec .flush s = .next (
      if out = [] then answered .flush .empty s
      else if 16 < s.log.length + out.length then answered .flush .logRoom s
      else answered .flush .ok (
        setWhen (s.log.length + out.length = 16) .clFull
        (setWhen (ch.watermark < ch.queue.length ∧ (ch.queue.take keep).length ≤ ch.watermark) (.txLow n)
        (State.setFlag (.txDone n) { s with
          channels := s.channels.set n { ch with
            queue := ch.queue.take keep, beatDue := ch.beatDue && decide (ch.state ≠ .idle) }
          slots := Vector.ofFn (fun i =>
            { s.slot i with frames := (s.slot i).frames - out.countP (fun d => d.slot = i) })
          log := s.log ++ out.map (fun d =>
            { channel := n, tag := d.tag, slot := d.slot, outcome := .flushed, completed := 0
              carrierAbsent := false }) }))))

/-! ### Transmit channels -/

/-- START_HEAD: an enabled IDLE channel with a queue starts its head at the beat event it has to take, with a fresh
context; a disabled one, or one with an empty queue, stays IDLE (R57, R63). That the beat event is still to be taken is
the model's own mark beatDue (assumption log 7). A slot with no cells, which no run reaches there, reads as assumption
log 17 says. -/
def Obligations.StartHeadBeginsTheFrame : Prop :=
  ∀ (s : State) (n : Fin 4), s.inReset = false →
    let ch := s.channel n
    ch.state = .idle →
    (∀ d rest, ch.beatDue = true → ch.enabled = true → ch.queue = d :: rest →
      exec (.startHead n) s = .next { s with
        channels := s.channels.set n { ch with state := playing s d fresh 0 0, beatDue := false } })
    ∧ (ch.enabled = false ∨ ch.queue = [] → exec (.startHead n) s = .next s)

/-- PHASE_END inside a symbol: the next phase begins with its whole length (R59). The beat event so taken is cleared from
the model's own mark beatDue, and the row stands apart from BEAT_EVENT (assumption log 7). A cell beyond the slot's, which
no run reaches, reads as assumption log 17 says. -/
def Obligations.PhaseEndBeginsTheNextPhase : Prop :=
  ∀ (s : State) (n : Fin 4) (c : Context) (d : Descriptor) (rest : List Descriptor), s.inReset = false →
    let ch := s.channel n
    ch.state = .play c → ch.queue = d :: rest → c.remaining = 0 →
    c.phase + 1 < (s.cellSymbol d c.position).lengths.length →
    exec (.phaseEnd n) s = .next { s with
      channels := s.channels.set n { ch with state := playing s d c c.position (c.phase + 1), beatDue := false } }

/-- PHASE_END of a symbol's last phase: the next cell's symbol, or after the last cell the completed count, the gap, or
the end of the repetition. GAP_END: the end of the repetition. An abort or a hold that is pending acts instead (R59 to
R61); a frame end is as FrameEndHandsOverOneRecord says. The beat event so taken is cleared from the model's own mark
beatDue on every path, and the rows stand apart from BEAT_EVENT (assumption log 7). A cell beyond the slot's, which no run
reaches, reads as assumption log 17 says. -/
def Obligations.BoundaryDecidesTheNextStep : Prop :=
  ∀ (s : State) (n : Fin 4) (c : Context) (d : Descriptor) (rest : List Descriptor), s.inReset = false →
    let ch := s.channel n
    let len := (s.slot d.slot).cells.length
    ch.queue = d :: rest → c.remaining = 0 →
    let t := s.setChannel n { ch with beatDue := false }
    let c' := { c with completed := min 255 (c.completed + 1) }
    (ch.state = .play c → (s.cellSymbol d c.position).lengths.length ≤ c.phase + 1 →
      exec (.phaseEnd n) s = .next (
        if c.position + 1 < len then goOn n c (c.position + 1) (playing s d c (c.position + 1) 0) t
        else if 0 < d.gap then
          goOn n c' len (.gap { c' with position := len, phase := 0, remaining := d.gap }) t
        else afterRepetition n d c' t))
    ∧ (ch.state = .gap c → exec (.gapEnd n) s = .next (afterRepetition n d c t))

/-- RESUME_TAKEN: a HELD channel goes on with the symbol or the gap it was held before, or leaves HELD without a frame
by starting its head if it can and else to IDLE (R70). That the beat event is still to be taken is the model's own mark
beatDue (assumption log 7). A cell beyond the slot's, which no run reaches, reads as assumption log 17 says. -/
def Obligations.ResumeTakenLeavesHeld : Prop :=
  ∀ (s : State) (n : Fin 4), s.inReset = false →
    let ch := s.channel n
    ch.beatDue = true → ch.resumePending = true →
    let next (x : ChannelState) : State := { s with
      channels := s.channels.set n { ch with state := x, resumePending := false, beatDue := false } }
    (∀ c d rest, ch.state = .held (some c) → ch.queue = d :: rest →
      exec (.resumeTaken n) s = .next (next (
        if c.position = (s.slot d.slot).cells.length then .gap { c with phase := 0, remaining := d.gap }
        else playing s d c c.position 0)))
    ∧ (∀ d rest, ch.state = .held none → ch.queue = d :: rest → ch.enabled = true →
      exec (.resumeTaken n) s = .next (next (playing s d fresh 0 0)))
    ∧ (ch.state = .held none → ch.queue = [] ∨ ch.enabled = false → exec (.resumeTaken n) s = .next (next .idle))

/-- A frame ends: the head leaves, the slot's frame count falls, the watermark is examined, the flags of the frame clear,
and the record enters the log, with the channel IDLE or HELD after it, or waits in LOGWAIT (R29, R46, R47, R65 to R67,
R79, R82, R88, R89). Where the event that ends the frame also changes the watermark from wOld, which of the two is examined
is open (assumption log 12). The channel has a beat event left to take (the model's own mark, assumption log 7) only if it
had one and enters IDLE where it can start its next head. -/
def Obligations.FrameEndHandsOverOneRecord : Prop :=
  ∀ (s : State) (n : Fin 4) (o : FrameOutcome) (c : Context) (wOld : Nat) (d : Descriptor) (rest : List Descriptor),
    let ch := s.channel n
    ch.queue = d :: rest →
    let r : Completion :=
      { channel := n, tag := d.tag, slot := d.slot, outcome := o, completed := c.completed
        carrierAbsent := c.carrierAbsent }
    let w := if Config.clearingSeesNewWatermark then ch.watermark else wOld
    let left (x : ChannelState) (hold due : Bool) (entered : List Completion) (waits : List (Fin 4)) : State :=
      setWhen (w < rest.length + 1 ∧ rest.length ≤ w) (.txLow n) { s with
        channels := s.channels.set n { ch with
          state := x, queue := rest, abortPending := false, resumePending := false, holdPending := hold
          beatDue := due }
        slots := s.slots.set d.slot { s.slot d.slot with frames := (s.slot d.slot).frames - 1 }
        log := s.log ++ entered, waitList := s.waitList ++ waits }
    frameEnd n o c wOld s =
      if s.log.length < 16 then
        setWhen (s.log.length = 15) .clFull (setWhen (ch.holdPending = true) (.txHeld n) (State.setFlag (.txDone n)
          (if ch.holdPending then left (.held none) false false [r] []
            else left .idle false (ch.beatDue && ch.enabled && decide (rest ≠ [])) [r] [])))
      else left (.logwait r) ch.holdPending false [] [n]

/-- HOLD and RESUME act by the channel's state (R68, R69). A HOLD that an IDLE channel takes leaves it no beat event to take
(R76; the model's own mark, assumption log 7). -/
def Obligations.HoldAndResumeActByState : Prop :=
  ∀ s : State, s.AtWrite .cmd → IndexBelow 4 .hold s ∧ IndexBelow 4 .resume s
    ∧ ∀ n : Fin 4, (s.arg 0).toNat = n →
    let ch := s.channel n
    exec .hold s = .next (
        if ch.holdPending ∨ isHeld ch.state then answered .hold .already s
        else if ch.state = .idle then
          answered .hold .ok (State.setFlag (.txHeld n) { s with
            channels := s.channels.set n { ch with state := .held none, beatDue := false } })
        else answered .hold .ok { s with channels := s.channels.set n { ch with holdPending := true } })
    ∧ exec .resume s = .next (
        if isHeld ch.state then
          answered .resume .ok { s with channels := s.channels.set n { ch with resumePending := true } }
        else if ch.holdPending = true then
          answered .resume .ok { s with channels := s.channels.set n { ch with holdPending := false } }
        else answered .resume .notHeld s)

/-- ABORT: SYMBOL waits for the boundary in PLAY and GAP; IMMEDIATE, and either kind in HELD, ends the frame at once,
as FrameEndHandsOverOneRecord says (R71, R72). -/
def Obligations.AbortEndsTheFrame : Prop :=
  ∀ s : State, s.AtWrite .cmd → IndexBelow 4 .abort s ∧ ∀ n : Fin 4, (s.arg 0).toNat = n →
    let ch := s.channel n
    exec .abort s = .next (
      if 1 < (s.arg 1).toNat then answered .abort .badArg s
      else match ch.state.context with
        | none => answered .abort .noFrame s
        | some c =>
          if (s.arg 1).toNat = 1 ∧ ch.abortPending = true then answered .abort .already s
          else if (s.arg 1).toNat = 1 ∧ ch.state ≠ .held (some c) then
            answered .abort .ok { s with channels := s.channels.set n { ch with abortPending := true } }
          else answered .abort .ok (frameEnd n .aborted c ch.watermark s))

/-- RELEASE makes the repetition in progress the last (R60, R73). -/
def Obligations.ReleaseMakesTheRepetitionLast : Prop :=
  ∀ s : State, s.AtWrite .cmd → IndexBelow 4 .release s ∧ ∀ n : Fin 4, (s.arg 0).toNat = n →
    let ch := s.channel n
    (ch.state.context = none → exec .release s = .next (answered .release .noFrame s))
    ∧ ∀ c d rest, ch.state.context = some c → ch.queue = d :: rest →
      exec .release s = .next (
        if LastRepetition d c then answered .release .already s
        else
          let c' := { c with last := true }
          answered .release .ok { s with channels := s.channels.set n { ch with
            state :=
              if ch.state = .play c then .play c'
              else if ch.state = .gap c then .gap c'
              else .held (some c') } })

/-- Writes to TXn_CTRL store the enable and the watermark, at most 5; clearing a set enable clears the pending flags and
ends the frame in progress as ABORTED, or leaves HELD without a frame (R45, R74). WATERMARK_WRITE is the write with
enable in bit 0 and the watermark in bits 6 to 4 (R186); what the other two rows carry is the model's reading
(assumption log 25). Where the word that ends a frame also changes the watermark, which of the two is examined is open
(assumption log 12). A channel so stopped has no beat event left to take (R76; the model's own mark, assumption log 7).
-/
def Obligations.TxCtrlWriteStoresAndStops : Prop :=
  ∀ (s : State) (n : Fin 4) (f : BitVec 3), s.AtWrite (.txCtrl n) →
    let ch := s.channel n
    let on : State := { s with
      channels := s.channels.set n { ch with enabled := true, watermark := min 5 f.toNat } }
    let stopped (x : ChannelState) : State := { s with
      channels := s.channels.set n { ch with
        enabled := false, watermark := min 5 f.toNat, state := x, holdPending := false, abortPending := false
        resumePending := false, beatDue := false } }
    let off : State :=
      if ch.enabled = false then { s with channels := s.channels.set n { ch with watermark := min 5 f.toNat } }
      else match ch.state.context with
        | some c => frameEnd n .aborted c ch.watermark (stopped ch.state)
        | none => if ch.state = .held none then stopped .idle else stopped ch.state
    exec (.settingEnabled n f) s = .next (moved on)
    ∧ exec (.clearingEnabled n f) s = .next (moved off)
    ∧ ∀ w : Word, f = BitVec.ofNat 3 (w.toNat / 16) →
      exec (.watermarkWrite n w) s = .next (moved (if w.toNat % 2 = 1 then on else off))

/-- A channel puts out MARK exactly while it plays a mark phase of its head and the carrier, if the frame names one and
it is enabled, is high (R2, R62, R63). A cell beyond the slot's, which no run reaches, reads as assumption log 17 says. -/
def Obligations.ChannelMarksOnlyInAMarkPhase : Prop :=
  ∀ (s : State) (n : Fin 4), s.channelLevel n = .mark ↔
    ∃ c d rest, (s.channel n).state = .play c ∧ (s.channel n).queue = d :: rest
      ∧ (s.cellSymbol d c.position).levelAt c.phase = .mark
      ∧ ∀ g, d.carrier = some g → (s.carrier g).enabled = true → (s.carrier g).outputHigh = true

/-! ### The completion log -/

/-- CL_POP takes the oldest record into CL_OUT and gives the freed entry to the head of the wait list, whose channel then
goes on to IDLE or HELD, to start its next head at a beat event after this (R67, R84, R88; that it has none left to take is
said through the model's own mark beatDue, assumption log 7). -/
def Obligations.ClPopAdmitsTheHeadOfTheWaitList : Prop :=
  ∀ s : State, s.AtWrite .cmd → CompletionLogOk s →
    (s.log = [] → exec .clPop s = .next (answered .clPop .empty s))
    ∧ ∀ r rest, s.log = r :: rest →
      (s.waitList = [] →
        exec .clPop s = .next (answered .clPop .ok { s with clOut := r.words, log := rest }))
      ∧ ∀ n waits x, s.waitList = n :: waits → (s.channel n).state = .logwait x →
        let ch := s.channel n
        exec .clPop s = .next (answered .clPop .ok (
          setWhen (ch.holdPending = true) (.txHeld n) (State.setFlag (.txDone n) { s with
            clOut := r.words, log := rest ++ [x], waitList := waits
            channels := s.channels.set n { ch with
              state := if ch.holdPending then .held none else .idle, holdPending := false
              beatDue := false } })))

/-- RECORD_ADMISSION by itself gives a free entry to the head of the wait list; where CL_POP has done so within its own
step, which R81 makes the only case in a run, nothing is left for it (R84; the model's choice, assumption logs 7 and
19). -/
def Obligations.RecordAdmissionFillsAFreeEntry : Prop :=
  ∀ s : State, s.inReset = false →
    (16 ≤ s.log.length ∨ s.waitList = [] → exec .recordAdmission s = .next s)
    ∧ ∀ n waits x, s.log.length < 16 → s.waitList = n :: waits → (s.channel n).state = .logwait x →
      let ch := s.channel n
      exec .recordAdmission s = .next (
        setWhen (ch.holdPending = true) (.txHeld n) (State.setFlag (.txDone x.channel) { s with
          log := s.log ++ [x], waitList := waits
          channels := s.channels.set n { ch with
            state := if ch.holdPending then .held none else .idle, holdPending := false, beatDue := false } }))

/-! ### Timebase and carriers -/

/-- SET_TIMEBASE changes the exponent and restarts the count, only while every channel is IDLE and every unit OFF (R94,
R95). A beat event that a channel has not taken is dropped, which is the model's reading (assumption log 22). -/
def Obligations.SetTimebaseNeedsAnIdleDevice : Prop :=
  ∀ s : State, s.AtWrite .cmd →
    exec .setTimebase s = .next (
      if 12 < (s.arg 0).toNat then answered .setTimebase .badArg s
      else if (∃ n, (s.channel n).state ≠ .idle) ∨ ∃ u, (s.captureUnit u).state ≠ .off then
        answered .setTimebase .busy s
      else answered .setTimebase .ok { s with
        exponent := (s.arg 0).toNat, count := 0
        channels := Vector.ofFn (fun n => { s.channel n with beatDue := false }) })

/-- BEAT_EVENT, with nothing left over: the count restarts, every beats remaining in PLAY and GAP falls by 1, every unit
samples the level that stood on its pin, and nothing else changes (R58, R92, R119, R130, R131). What the circuit outside
does is an operand (assumption logs 10 and 11), and the phase timer counts beats (assumption log 18). What the beat
event gives a channel to do is the model's own mark beatDue (assumption log 7): the end of a phase or gap whose last
beat this was (R58), a start if IDLE, enabled and with a queue (R57), a resume that is pending in HELD (R70), nothing in
LOGWAIT. That the row takes effect and restarts the count at any timebase count is the model's own choice (assumption
log 6): R92 dates the beat event to the count of 2^k, where the free-running clock has it
(EmptyQueueCountsAClockPeriod). -/
def Obligations.BeatEventCountsDownAndSamples : Prop :=
  ∀ (s : State) (outside : Outside), s.inReset = false → workLeft s = false →
    let due (ch : Channel) : Bool := match ch.state with
      | .play c | .gap c => decide (c.remaining ≤ 1)
      | .idle => ch.enabled && decide (ch.queue ≠ [])
      | .held _ => ch.resumePending
      | .logwait _ => false
    let sample (c : CaptureUnit) : Level :=
      if s.sensed outside c.config.pin = c.config.rest then .space else .mark
    let run (c : CaptureUnit) (f : Filter) : Filter :=
      { f with run := if sample c = f.accepted then 0 else f.run + 1 }
    exec (.beatEvent outside) s = .next { s with
      count := 0
      channels := Vector.ofFn (fun n => { s.channel n with
        beatDue := due (s.channel n)
        state := match (s.channel n).state with
          | .play c => .play { c with remaining := c.remaining - 1 }
          | .gap c => .gap { c with remaining := c.remaining - 1 }
          | x => x })
      units := Vector.ofFn (fun u =>
        let c := s.captureUnit u
        { c with state := match c.state with
          | .off => .off
          | .armed none => .armed (some { accepted := sample c, run := 0 })
          | .armed (some f) => .armed (some (run c f))
          | .inFrame f age phases => .inFrame (run c f) (age + 1) phases
          | .stuck f => .stuck (run c f) }) }

/-- Writes to CGx_PERIOD and CGx_HIGH: a disabled generator applies the pair at once; an enabled one stores it, and a
write to the high register makes it ready. CARRIER_ENABLE begins a period at once, applying a ready pair;
CARRIER_DISABLE puts the output low at once and marks every frame that is in a mark without its carrier; each does
nothing to a generator already so (R63, R99 to R103; that the two rows are the words with that enable is assumption log 25).
The position of a disabled generator stands at 0, the model's
choice (assumption log 27). -/
def Obligations.CarrierRegisterWrites : Prop :=
  ∀ (s : State) (g : Fin 2) (w : Word),
    let c := s.carrier g
    let next (x : Carrier) : State := { s with carriers := s.carriers.set g x }
    let off := next { c with enabled := false, position := 0, outputHigh := false }
    (s.AtWrite (.cgPeriod g) → exec (.cgxPeriodWrite g w) s = .next (moved (next (
      if c.enabled then { c with periodReg := w } else pairOf { c with periodReg := w }))))
    ∧ (s.AtWrite (.cgHigh g) → exec (.cgxHighWrite g w) s = .next (moved (next (
      if c.enabled then { c with highReg := w, ready := true } else pairOf { c with highReg := w }))))
    ∧ (s.AtWrite (.cgCtrl g) →
      exec (.carrierEnable g) s = .next (moved (
        if c.enabled then s
        else next { (if c.ready then pairOf c else c) with enabled := true, position := 0, outputHigh := true }))
      ∧ exec (.carrierDisable g) s = .next (moved (
        if c.enabled then { off with channels := Vector.ofFn (fun n => absentMarked off (s.channel n)) } else s)))

/-- The end of the high time puts the output low; the end of the period begins the next one high, with a ready pair
applied (R98, R100). That the two rows act at any position, on the enable and the output's level alone, is the model's
own choice (assumption log 6): R98 dates them to the position reaching the high time and the period, where the
free-running clock has them (CarrierWaveform). -/
def Obligations.CarrierPartsEnd : Prop :=
  ∀ (s : State) (g : Fin 2), s.inReset = false →
    let c := s.carrier g
    c.enabled = true →
    (c.outputHigh = true →
      exec (.carrierHighTimeEnd g) s = .next { s with
        carriers := s.carriers.set g { c with position := c.high, outputHigh := false } })
    ∧ (c.outputHigh = false →
      exec (.carrierPeriodEnd g) s = .next { s with
        carriers := s.carriers.set g
          { (if c.ready then pairOf c else c) with position := 0, outputHigh := true } })

/-- Counting CLKIN periods from the start of a period, an enabled generator is high for exactly its high time, low for
the rest of its period, and then begins the next period, with a ready pair applied or else the same again (R98, R100). A
disabled generator counts nothing (R98). -/
def Obligations.CarrierWaveform : Prop :=
  (∀ c : Carrier, c.Ok → c.enabled = true → c.position = 0 → c.outputHigh = true →
    (∀ j, j < c.period → (Carrier.tick^[j] c).outputHigh = decide (j < c.high))
      ∧ Carrier.tick^[c.period] c
        = { (if c.ready then pairOf c else c) with position := 0, outputHigh := true })
    ∧ ∀ c : Carrier, c.enabled = false → c.tick = c

/-! ### Pins -/

/-- PIN_ROUTE replaces a pin's route list (R109, R110). A write to PINn_CFG sets the static mode, the static level, the
drive style and the inversion, and leaves the list (R107, R118, R186). -/
def Obligations.PinRouteAndConfiguration : Prop :=
  ∀ (s : State) (p : Fin 8),
    (s.AtWrite .cmd → IndexBelow 8 .pinRoute s)
    ∧ (s.AtWrite .cmd → (s.arg 0).toNat = p →
      let c := (s.arg 1).toNat
      let codes := ([s.arg 2, s.arg 3, s.arg 4].take c).map BitVec.toNat
      exec .pinRoute s = .next (
        if 3 < c ∨ ∃ k ∈ codes, 5 < k then answered .pinRoute .badArg s
        else if ¬ codes.Nodup then answered .pinRoute .duplicate s
        else answered .pinRoute .ok { s with pins := s.pins.set p { s.pin p with
          route := codes.map (fun k =>
            if k = 4 then .cg 0 else if k = 5 then .cg 1 else .tx (Fin.ofNat 4 k)) } }))
    ∧ ∀ w : Word, s.AtWrite (.pinCfg p) →
      exec (.pinCfgWrite p w) s = .next (moved { s with pins := s.pins.set p {
        mode := if w.toNat % 2 = 1 then .drive else .released
        level := if w.toNat / 2 % 2 = 1 then .high else .low
        style := if w.toNat / 4 % 2 = 1 then .openDrain else .pushPull
        invert := decide (w.toNat / 8 % 2 = 1)
        route := (s.pin p).route } })

/-- Outside a full reset the first asserting source of the route list drives the pin; with none asserting, the static
configuration does; inversion applies to sources only, and an open-drain pin is never driven high. In a full reset no
pin is driven (R111 to R114, R121). A channel asserts while it is not IDLE, and a generator while it is enabled; a channel
offers its level, and a generator MARK while its output is high (R64, R111). The sensed level is the driven one, and the
outside's where the pin is not driven or where the outside opposes the drive (R116; what the outside does is an input,
assumption logs 10 and 11). -/
def Obligations.FirstAssertingSourceDrivesThePin : Prop :=
  ∀ (s : State) (p : Fin 8),
    let x := s.pin p
    let put (l : Line) : Option Line := if x.style = .openDrain ∧ l = .high then none else some l
    (s.inReset = true → s.drive p = none)
    ∧ (s.inReset = false → (∀ y ∈ x.route, s.asserts y = false) →
      s.drive p = if x.mode = .drive then put x.level else none)
    ∧ (∀ before y after, s.inReset = false → x.route = before ++ y :: after → (∀ z ∈ before, s.asserts z = false) →
      s.asserts y = true →
      s.drive p = put (if (s.sourceLevel y = .mark) = (x.invert = false) then .high else .low))
    ∧ (∀ n, (s.asserts (.tx n) = true ↔ (s.channel n).state ≠ .idle)
      ∧ s.sourceLevel (.tx n) = s.channelLevel n)
    ∧ (∀ g, (s.asserts (.cg g) = true ↔ (s.carrier g).enabled = true)
      ∧ (s.sourceLevel (.cg g) = .mark ↔ (s.carrier g).outputHigh = true))
    ∧ ∀ outside : Outside,
      let given : Line := if outside.level.getLsbD p then .high else .low
      (s.drive p = none → s.sensed outside p = given)
      ∧ ∀ l, s.drive p = some l →
        s.sensed outside p = if outside.opposes.getLsbD p then given else l

/-! ### Capture units -/

/-- CAP_SETUP writes an OFF unit's configuration whole (R124, R125, R186). -/
def Obligations.CapSetupConfiguresAnOffUnit : Prop :=
  ∀ s : State, s.AtWrite .cmd → IndexBelow 2 .capSetup s
    ∧ ∀ (u : Fin 2) (pin : Fin 8), (s.arg 0).toNat = u → (s.arg 1).toNat % 8 = pin →
    let mode := (s.arg 2).toNat % 256
    let rest := (s.arg 2).toNat / 256
    exec .capSetup s = .next (
      if (s.captureUnit u).state ≠ .off then answered .capSetup .busy s
      else if 7 < (s.arg 1).toNat ∨ 1 < mode ∨ 1 < rest ∨ 15 < (s.arg 3).toNat ∨ (s.arg 4).toNat = 0
          ∨ (s.arg 5).toNat = 0 ∨ 48 < (s.arg 5).toNat then
        answered .capSetup .badArg s
      else answered .capSetup .ok { s with units := s.units.set u { s.captureUnit u with config := {
        pin := pin, mode := if mode = 0 then .raw else .decode, rest := if rest = 0 then .low else .high
        filter := (s.arg 3).toNat, idle := (s.arg 4).toNat, threshold := (s.arg 5).toNat } } })

/-- CAP_START arms an OFF unit. CAP_STOP puts it OFF at once; in IN_FRAME the decoder of a DECODE unit flushes, a
FRAME_END record marked CUT is offered, and the frame number rises (R127, R128, R139; that the flush is told to its end is
assumption log 28). -/
def Obligations.CapStartAndStop : Prop :=
  ∀ s : State, s.AtWrite .cmd → IndexBelow 2 .capStart s ∧ IndexBelow 2 .capStop s
    ∧ ∀ u : Fin 2, (s.arg 0).toNat = u →
    let c := s.captureUnit u
    let off (t : State) (number : BitVec 8) : State := { t with
      units := t.units.set u { t.captureUnit u with state := .off, frameNumber := number } }
    exec .capStart s = .next (
        if c.state ≠ .off then answered .capStart .already s
        else answered .capStart .ok { s with units := s.units.set u { c with state := .armed none } })
    ∧ exec .capStop s = .next (
        match c.state with
        | .off => answered .capStop .already s
        | .armed _ | .stuck _ => answered .capStop .ok (off s c.frameNumber)
        | .inFrame _ _ phases =>
          answered .capStop .ok
            (off (offerRecord u (.frameEnd c.frameNumber phases false true) (decoderFlush u none s))
              (c.frameNumber + 1)))

/-- ACCEPTED_EDGE, with F + 1 samples of the other level in a row: an edge to MARK starts a frame of an ARMED unit; in
IN_FRAME the open phase closes, with its length from date to date, and goes to the log or the decoder; in STUCK an edge
to SPACE arms the unit (R131, R133 to R135, R137). The row stands apart from BEAT_EVENT (assumption log 7), the phase
timer is held as a count of beats (assumption log 18), and that the decoder's replay is told to its end is assumption
log 28. -/
def Obligations.AcceptedEdgeClosesThePhase : Prop :=
  ∀ (s : State) (u : Fin 2) (f : Filter), s.inReset = false →
    let c := s.captureUnit u
    c.config.filter + 1 ≤ f.run →
    let now (x : CaptureState) : State := { s with units := s.units.set u { c with state := x } }
    let other : Filter := { accepted := if f.accepted = .mark then .space else .mark, run := 0 }
    (c.state = .armed (some f) → exec (.acceptedEdge u) s = .next (now (
      if f.accepted = .space then .inFrame other c.config.filter 0 else .armed (some other))))
    ∧ (c.state = .stuck f → exec (.acceptedEdge u) s = .next (now (
      if f.accepted = .mark then .armed (some other) else .stuck other)))
    ∧ ∀ age phases, c.state = .inFrame f age phases →
      let t := now (.inFrame other c.config.filter (min 255 (phases + 1)))
      let p : Phase := { level := f.accepted, length := age - c.config.filter }
      exec (.acceptedEdge u) s = .next (
        if c.config.mode = .raw then offerRecord u (.phase p.level p.length) t
        else decoded u (feed t c.decodeSet [{ phase := p, isOpen := false }] (workOf c)) t)

/-- IDLE_TIMEOUT ends the frame when the open space has reached the idle threshold with a SPACE sample, and STUCK_MARK
when the open mark has reached 65535 beats with a MARK sample: the decoder flushes, FRAME_END is offered, the flag of
that end is set and the frame number rises (R136 to R139). The rows stand apart from BEAT_EVENT (assumption log 7), the
phase timer is held as a count of beats (assumption log 18), and that the flush is told to its end is assumption log 28.
-/
def Obligations.FrameEndsByIdleOrStuck : Prop :=
  ∀ (s : State) (u : Fin 2) (f : Filter) (age phases : Nat), s.inReset = false →
    let c := s.captureUnit u
    c.state = .inFrame f age phases → f.run = 0 →
    let ended (openSpace : Option Phase) (stuck : Bool) (flag : Flag) (x : CaptureState) : State :=
      let t := State.setFlag flag
        (offerRecord u (.frameEnd c.frameNumber phases stuck false) (decoderFlush u openSpace s))
      let e := { t.captureUnit u with state := x, frameNumber := c.frameNumber + 1 }
      { t with units := t.units.set u e }
    (f.accepted = .space → c.config.idle ≤ age + 1 →
      exec (.idleTimeout u) s = .next (ended (some { level := .space, length := min 65535 (age + 1) }) false
        (.capFrame u) (.armed (some f))))
    ∧ (f.accepted = .mark → 65535 ≤ age + 1 →
      exec (.stuckMark u) s = .next (ended none true (.capStuck u) (.stuck f)))

/-! ### Decoders -/

/-- CAP_DECODE_SET replaces the decode set of an OFF unit and moves the counts by the difference (R11, R145, R146). -/
def Obligations.CapDecodeSetReplacesTheSet : Prop :=
  ∀ s : State, s.AtWrite .cmd → IndexBelow 2 .capDecodeSet s ∧ ∀ u : Fin 2, (s.arg 0).toNat = u →
    let c := (s.arg 1).toNat
    exec .capDecodeSet s = .next (
      if (s.captureUnit u).state ≠ .off then answered .capDecodeSet .busy s
      else if 12 < c ∨ StageAbove63 s c then answered .capDecodeSet .badArg s
      else if StageNamesEmpty s c then answered .capDecodeSet .notDefined s
      else if ¬ (stageIndices s c).Nodup then answered .capDecodeSet .duplicate s
      else answered .capDecodeSet .ok { s with
        units := s.units.set u { s.captureUnit u with decodeSet := stageIndices s c }
        symbols := recount (s.captureUnit u).decodeSet (stageIndices s c) s })

/-- Taking phases, with every fallback and replay, neither loses nor doubles one in the count of phases held and
settled, and what the decoder then holds is again as R147 says, with a held match of at most the list's own length
(assumption log 29). The items are taken one at a time, oldest first, and the phases that a fallback leaves are replayed
ahead of those not yet taken (R149 to R151); that the replay is told to its end is assumption log 28. An open space may
stand last: it is dropped where it would become the first of the list, and it never stays in the list (R153, R156). -/
def Obligations.DecoderAccountsForEveryPhase : Prop :=
  ∀ (s : State) (set : List (Fin 64)) (items : List Item) (w : Work), WorkOk s w →
    let t := feed s set items w
    ((∀ x ∈ items, x.isOpen = false) → WorkOk s t ∧ accountedFor s t = accountedFor s w + items.length)
    ∧ (OpenOnlyLast items →
      WorkOk s t
      ∧ accountedFor s t ≤ accountedFor s w + items.length ∧ accountedFor s w + items.length ≤ accountedFor s t + 1
      ∧ (items = [] → t = w)
      ∧ ∀ x rest, items = x :: rest →
        t = if x.isOpen = true ∧ w.list = [] then feed s set rest w
          else
            let r := takeItem s set x w
            feed s set (r.2 ++ rest) r.1)

/-- A flush leaves the pending list empty and the held match absent, and accounts for every phase that was held (R154,
R156). It settles the list by a full match of the whole of it, the first in set order; with none, by the held match;
with none, by NOMATCH for the oldest phase; the phases that remain are replayed, and the flush goes on (R154). That as
many steps as the list has phases are enough is assumption log 28; that a held match may be as long as the list is log
29. A flush after an open space is this flush, since the open space does not stay in the list (R153;
FrameEndsByIdleOrStuck, DecoderAccountsForEveryPhase). -/
def Obligations.FlushLeavesTheDecoderEmpty : Prop :=
  ∀ (s : State) (set : List (Fin 64)) (w : Work), WorkOk s w →
    let full (m : Fin 64) : Prop := (s.symbol m).fullMatch (w.list.map Item.phase) = true
    (let t := flushAll s set (w.list.length + 1) w;
      t.list = [] ∧ t.held = none ∧ accountedFor s t = accountedFor s w)
    ∧ (w.list = [] → flushed s set w = w)
    ∧ (∀ before m after, w.list ≠ [] → set = before ++ m :: after → (∀ k ∈ before, ¬ full k) → full m →
      flushed s set w = { list := [], held := none, out := w.out ++ [.symbol m (s.symbol m).code] })
    ∧ ((∀ m ∈ set, ¬ full m) →
      (∀ h, w.held = some h → flushed s set w = flushed s set (feed s set (w.list.drop h.length)
        { list := [], held := none, out := w.out ++ [.symbol h.member (s.symbol h.member).code] }))
      ∧ ∀ x rest, w.held = none → w.list = x :: rest → flushed s set w = flushed s set (feed s set rest
        { list := [], held := none, out := w.out ++ [.noMatch x.phase.level x.phase.length] }))

/-- The longest match wins: a full match with no longer candidate is written and empties the list; with a longer
candidate it is held; with only longer candidates the decoder waits; with none it falls back to the held match or to
NOMATCH for the oldest phase, and the phases that remain are to be replayed (R148 to R150). The open space is matched by a
member's last position alone, so that it completes a member or the decoder falls back (R153). -/
def Obligations.DecoderTakesAPhaseByTheTable : Prop :=
  ∀ (s : State) (set : List (Fin 64)) (p : Phase) (w : Work), (∀ x ∈ w.list, x.isOpen = false) →
    let l := w.list ++ [{ phase := p, isOpen := false }]
    let full (m : Fin 64) : Prop := (s.symbol m).fullMatch (l.map Item.phase) = true
    let longer : Prop := ∃ m ∈ set, (s.symbol m).beginsWith (l.map Item.phase) = true
      ∧ l.length < (s.symbol m).lengths.length
    (∀ before m after, set = before ++ m :: after → (∀ k ∈ before, ¬ full k) → full m →
      (¬ longer → takeItem s set { phase := p, isOpen := false } w
        = ({ list := [], held := none, out := w.out ++ [.symbol m (s.symbol m).code] }, []))
      ∧ (longer → takeItem s set { phase := p, isOpen := false } w
        = ({ list := l, held := some { member := m, length := l.length }, out := w.out }, [])))
    ∧ ((∀ m ∈ set, ¬ full m) → longer →
      takeItem s set { phase := p, isOpen := false } w = ({ list := l, held := w.held, out := w.out }, []))
    ∧ ((∀ m ∈ set, (s.symbol m).beginsWith (l.map Item.phase) = false) →
      (∀ h, w.held = some h → takeItem s set { phase := p, isOpen := false } w
        = ({ list := [], held := none, out := w.out ++ [.symbol h.member (s.symbol h.member).code] },
          l.drop h.length))
      ∧ (w.held = none → ∀ x rest, l = x :: rest → takeItem s set { phase := p, isOpen := false } w
        = ({ list := [], held := none, out := w.out ++ [.noMatch x.phase.level x.phase.length] }, rest)))
    ∧ let withOpen := w.list ++ [{ phase := p, isOpen := true }];
    (∀ before m after, set = before ++ m :: after → (∀ k ∈ before, ¬ full k) → full m →
      takeItem s set { phase := p, isOpen := true } w
        = ({ list := [], held := none, out := w.out ++ [.symbol m (s.symbol m).code] }, []))
    ∧ ((∀ m ∈ set, ¬ full m) →
      (∀ h, w.held = some h → takeItem s set { phase := p, isOpen := true } w
        = ({ list := [], held := none, out := w.out ++ [.symbol h.member (s.symbol h.member).code] },
          withOpen.drop h.length))
      ∧ (w.held = none → ∀ x rest, withOpen = x :: rest → takeItem s set { phase := p, isOpen := true } w
        = ({ list := [], held := none, out := w.out ++ [.noMatch x.phase.level x.phase.length] }, rest)))

/-! ### Capture logs and events -/

/-- A data record offered to a log: written while two or more entries are free, with CAPn_DATA as the count reaches the
threshold; an OVERRUN record of lost count 1 in the last entry, with CAPn_OVR; and otherwise the youngest OVERRUN
record's lost count rises, up to 255 (R160, R161, R164, R165). CAP_POP takes the oldest record into CAP_OUT (R162). -/
def Obligations.CaptureLogTakesAndGives : Prop :=
  ∀ (s : State) (u : Fin 2) (r : CaptureRecord),
    let c := s.captureUnit u
    let log (l : List CaptureRecord) : State := { s with units := s.units.set u { c with log := l } }
    (c.log.length ≤ 46 → offerRecord u r s =
      setWhen (c.log.length + 1 = c.config.threshold) (.capData u) (log (c.log ++ [r])))
    ∧ (∀ l x, c.log = l ++ [x] → c.log.length = 47 → (∀ k, x ≠ .overrun k) → offerRecord u r s =
      State.setFlag (.capOvr u)
        (setWhen (c.config.threshold = 48) (.capData u) (log (c.log ++ [.overrun 1]))))
    ∧ (∀ l k, c.log = l ++ [.overrun k] → 47 ≤ c.log.length →
      offerRecord u r s = log (l ++ [.overrun (min 255 (k + 1))]))
    ∧ (s.AtWrite .cmd → IndexBelow 2 .capPop s)
    ∧ (s.AtWrite .cmd → (s.arg 0).toNat = u → exec .capPop s = .next (
      match c.log with
      | [] => answered .capPop .empty s
      | x :: rest => answered .capPop .ok { log rest with capOut := x.words u }))

/-- Each flag stands at its own position of EVT_PEND, the one that R168 and R186 give it, and setting it leaves every other
flag as it was; IRQ# is low exactly while some
flag is both pending and enabled, outside a full reset (R168, R172, R174, R186). -/
def Obligations.FlagsAreSeparateAndDriveIrq : Prop :=
  (∀ (s : State) (f g : Flag), (State.setFlag f s).flag g = (s.flag g || decide (f = g)))
    ∧ (∀ f : Flag, (f.reg.val, f.bit) = flagPlace f)
    ∧ ∀ s : State, EventsOk s →
      (s.irqLow = true ↔ s.inReset = false ∧ ∃ f : Flag, s.flag f = true ∧ s.flagEnabled f = true)

/-- A write of 1 at a flag's position of EVT_PEND clears that flag and no other; EVT_EN takes a word's bits at the 13
and the 8 positions that hold flags and ignores the rest; each register reads back what it holds (R169, R171). -/
def Obligations.EventRegisterWrites : Prop :=
  ∀ (s : State) (r : Fin 2) (w : Word),
    (s.AtWrite (.evtPend r) →
      exec (.evtPendWrite r w) s = .next (moved { s with pend := s.pend.set r (s.pend[r] &&& ~~~w) }))
    ∧ (s.AtWrite (.evtEn r) →
      exec (.evtEnWrite r w) s = .next (moved { s with
        enable := s.enable.set r (BitVec.ofNat 16 (w.toNat % (if r = 0 then 2 ^ 13 else 2 ^ 8))) }))
    ∧ readReg (.evtPend r) s = s.pend[r] ∧ readReg (.evtEn r) s = s.enable[r]

/-! ### What holds in every state -/

/-- After a full reset every promise of Safety.lean holds (R183; that of the model's own marks is assumption log 7, the
port's bit count log 4, the values throughout a full reset log 15, the bound on a held match log 29, and the lines and
the port's remembered items at State.reset log 14). -/
def Obligations.ResetStateMeetsEveryPromise : Prop :=
  PlayOk State.reset ∧ ChannelsOk State.reset ∧ CompletionLogOk State.reset ∧ CarriersOk State.reset
    ∧ RoutesOk State.reset ∧ TimebaseOk State.reset ∧ EventsOk State.reset ∧ CaptureLogsOk State.reset
    ∧ DecodersOk State.reset ∧ PortOk State.reset ∧ ResetHeld State.reset ∧ ContextsOk State.reset
    ∧ MarksOk State.reset ∧ RecordsOk State.reset ∧ UnitsOk State.reset

/-- Every step keeps the tables, the reference counts, the queues, the frame counts, and the place of every frame in
progress (R1, R8, R12, R18, R28, R30, R36, R53, R144), and with them the numbers of every context within R53's ranges, the
repetition never above the repeat count (R60). Beats remaining may be 0 between the rows of one beat event (assumption log
7). -/
def Obligations.EveryStepKeepsTablesQueuesAndPlaces : Prop :=
  ∀ s t : State, PlayOk s → step s = .next t → PlayOk t ∧ (ContextsOk s → ContextsOk t)

/-- Every step keeps the channels' flags to their states (R52, R53, R74), and the model's own mark of a beat event to
take to the channels that have something to do at it (assumption log 7). -/
def Obligations.EveryStepKeepsChannelFlags : Prop :=
  ∀ s t : State, ChannelsOk s → step s = .next t → ChannelsOk t ∧ (MarksOk s → MarksOk t)

/-- Every step keeps the completion log to 16 records and the wait list to the channels in LOGWAIT (R80, R81), and every
count of repetitions completed at 255 or below (R53, R79). -/
def Obligations.EveryStepKeepsTheCompletionLog : Prop :=
  ∀ s t : State, step s = .next t → (CompletionLogOk s → CompletionLogOk t) ∧ (RecordsOk s → RecordsOk t)

/-- Every step keeps carriers, route lists, timebase and event registers within their ranges (R92, R96, R98, R108, R169,
R171), and the port in a frame only while SEL# is low outside a full reset (R175, R179, R183). That the port's bit count
is 0 in every state, between two rows, is the model's own (assumption log 4: a header or a word is taken whole), and no
rule's. -/
def Obligations.EveryStepKeepsTheSmallBlocks : Prop :=
  ∀ s t : State, step s = .next t →
    (CarriersOk s → CarriersOk t) ∧ (RoutesOk s → RoutesOk t) ∧ (TimebaseOk s → TimebaseOk t)
      ∧ (EventsOk s → EventsOk t) ∧ (PortOk s → PortOk t)

/-- Every step keeps both capture logs: at most 48 records, no two OVERRUN records in a row, and one of them youngest in
a full log (R159 to R161). -/
def Obligations.EveryStepKeepsTheCaptureLogs : Prop :=
  ∀ s t : State, CaptureLogsOk s → step s = .next t → CaptureLogsOk t

/-- Every step keeps the decoders to at most 8 pending phases, none outside a frame, with a held match of at most the
list's own length (R147; its length may equal the list's, assumption log 29), and keeps each unit's configuration, run
state, pending phases and records in the ranges of R123, R126, R147 and R159 (a run of F + 1 stands only between the
rows of one beat event, assumption log 7; the phase timer is held as a count of beats, log 18). -/
def Obligations.EveryStepKeepsTheDecoders : Prop :=
  ∀ s t : State, step s = .next t → (DecodersOk s → DecodersOk t) ∧ (UnitsOk s → UnitsOk t)

/-- While a full reset lasts no step changes any item of state, so that each holds its reset value when the reset ends
(R183); that each holds it throughout is the model's reading (assumption log 15). -/
def Obligations.NothingActsInAFullReset : Prop :=
  ∀ s t : State, ResetHeld s → step s = .next t → ResetHeld t

/-- A symbol that something names is the same record after every step that does not begin or end a full reset: only its
count may move (R12). -/
def Obligations.ANamedSymbolDoesNotChange : Prop :=
  ∀ (s t : State) (i : Fin 64), 0 < (s.symbol i).refs → step s = .next t →
    (∀ c rest, s.pending ≠ .fullReset c :: rest) → (∀ c rest, s.pending ≠ .fullResetEnd c :: rest) →
    t.symbol i = { s.symbol i with refs := (t.symbol i).refs }
end

