-- ==== Sys2Proof/Laws/State.lean ====
section
/-! SUPPORT. One lemma for each field and each update of State, so that no later proof unfolds a record update: what an
update does not name stays, and what it names is read back. -/

namespace Sys2Proof.Machine.Laws

open Sys2Proof Sys2Proof.Machine

/-! ### Updates by a function, and updates of a part of a part, as plain updates -/

@[simp] theorem modChannel_eq (n : Fin 4) (f : Channel → Channel) (s : State) :
    s.modChannel n f = s.setChannel n (f (s.channel n)) := rfl

@[simp] theorem modUnit_eq (u : Fin 2) (f : CaptureUnit → CaptureUnit) (s : State) :
    s.modUnit u f = s.setUnit u (f (s.captureUnit u)) := rfl

@[simp] theorem modCarrier_eq (g : Fin 2) (f : Carrier → Carrier) (s : State) :
    s.modCarrier g f = s.setCarrier g (f (s.carrier g)) := rfl

@[simp] theorem setState_eq (n : Fin 4) (x : ChannelState) (s : State) :
    s.setState n x = s.setChannel n { s.channel n with state := x } := rfl

/-! ### setChannel -/

@[simp] theorem setChannel_rstLow (n : Fin 4) (c : Channel) (s : State) : (s.setChannel n c).rstLow = s.rstLow := rfl
@[simp] theorem setChannel_powerHold (n : Fin 4) (c : Channel) (s : State) : (s.setChannel n c).powerHold = s.powerHold := rfl
@[simp] theorem setChannel_selLow (n : Fin 4) (c : Channel) (s : State) : (s.setChannel n c).selLow = s.selLow := rfl
@[simp] theorem setChannel_port (n : Fin 4) (c : Channel) (s : State) : (s.setChannel n c).port = s.port := rfl
@[simp] theorem setChannel_resultCode (n : Fin 4) (c : Channel) (s : State) : (s.setChannel n c).resultCode = s.resultCode := rfl
@[simp] theorem setChannel_result (n : Fin 4) (c : Channel) (s : State) : (s.setChannel n c).result = s.result := rfl
@[simp] theorem setChannel_args (n : Fin 4) (c : Channel) (s : State) : (s.setChannel n c).args = s.args := rfl
@[simp] theorem setChannel_stage (n : Fin 4) (c : Channel) (s : State) : (s.setChannel n c).stage = s.stage := rfl
@[simp] theorem setChannel_clOut (n : Fin 4) (c : Channel) (s : State) : (s.setChannel n c).clOut = s.clOut := rfl
@[simp] theorem setChannel_capOut (n : Fin 4) (c : Channel) (s : State) : (s.setChannel n c).capOut = s.capOut := rfl
@[simp] theorem setChannel_symbols (n : Fin 4) (c : Channel) (s : State) : (s.setChannel n c).symbols = s.symbols := rfl
@[simp] theorem setChannel_slots (n : Fin 4) (c : Channel) (s : State) : (s.setChannel n c).slots = s.slots := rfl
@[simp] theorem setChannel_log (n : Fin 4) (c : Channel) (s : State) : (s.setChannel n c).log = s.log := rfl
@[simp] theorem setChannel_waitList (n : Fin 4) (c : Channel) (s : State) : (s.setChannel n c).waitList = s.waitList := rfl
@[simp] theorem setChannel_exponent (n : Fin 4) (c : Channel) (s : State) : (s.setChannel n c).exponent = s.exponent := rfl
@[simp] theorem setChannel_count (n : Fin 4) (c : Channel) (s : State) : (s.setChannel n c).count = s.count := rfl
@[simp] theorem setChannel_carriers (n : Fin 4) (c : Channel) (s : State) : (s.setChannel n c).carriers = s.carriers := rfl
@[simp] theorem setChannel_pins (n : Fin 4) (c : Channel) (s : State) : (s.setChannel n c).pins = s.pins := rfl
@[simp] theorem setChannel_units (n : Fin 4) (c : Channel) (s : State) : (s.setChannel n c).units = s.units := rfl
@[simp] theorem setChannel_pend (n : Fin 4) (c : Channel) (s : State) : (s.setChannel n c).pend = s.pend := rfl
@[simp] theorem setChannel_enable (n : Fin 4) (c : Channel) (s : State) : (s.setChannel n c).enable = s.enable := rfl
@[simp] theorem setChannel_freeCount (n : Fin 4) (c : Channel) (s : State) : (s.setChannel n c).freeCount = s.freeCount := rfl
@[simp] theorem setChannel_pending (n : Fin 4) (c : Channel) (s : State) : (s.setChannel n c).pending = s.pending := rfl
@[simp] theorem setChannel_inReset (n : Fin 4) (c : Channel) (s : State) : (s.setChannel n c).inReset = s.inReset := rfl
@[simp] theorem setChannel_arg (n : Fin 4) (c : Channel) (s : State) (k : Fin 6) : (s.setChannel n c).arg k = s.arg k := rfl
@[simp] theorem setChannel_channel (n : Fin 4) (c : Channel) (s : State) (k : Fin 4) :
    (s.setChannel n c).channel k = if k = n then c else s.channel k := by
  simp only [State.channel, State.setChannel, Fin.getElem_fin, Vector.getElem_set, Fin.val_inj, eq_comm]
@[simp] theorem setChannel_symbol (n : Fin 4) (c : Channel) (s : State) (k : Fin 64) : (s.setChannel n c).symbol k = s.symbol k := rfl
@[simp] theorem setChannel_slot (n : Fin 4) (c : Channel) (s : State) (k : Fin 32) : (s.setChannel n c).slot k = s.slot k := rfl
@[simp] theorem setChannel_carrier (n : Fin 4) (c : Channel) (s : State) (k : Fin 2) : (s.setChannel n c).carrier k = s.carrier k := rfl
@[simp] theorem setChannel_pin (n : Fin 4) (c : Channel) (s : State) (k : Fin 8) : (s.setChannel n c).pin k = s.pin k := rfl
@[simp] theorem setChannel_captureUnit (n : Fin 4) (c : Channel) (s : State) (k : Fin 2) : (s.setChannel n c).captureUnit k = s.captureUnit k := rfl

/-! ### setSymbol -/

@[simp] theorem setSymbol_rstLow (i : Fin 64) (x : Symbol) (s : State) : (s.setSymbol i x).rstLow = s.rstLow := rfl
@[simp] theorem setSymbol_powerHold (i : Fin 64) (x : Symbol) (s : State) : (s.setSymbol i x).powerHold = s.powerHold := rfl
@[simp] theorem setSymbol_selLow (i : Fin 64) (x : Symbol) (s : State) : (s.setSymbol i x).selLow = s.selLow := rfl
@[simp] theorem setSymbol_port (i : Fin 64) (x : Symbol) (s : State) : (s.setSymbol i x).port = s.port := rfl
@[simp] theorem setSymbol_resultCode (i : Fin 64) (x : Symbol) (s : State) : (s.setSymbol i x).resultCode = s.resultCode := rfl
@[simp] theorem setSymbol_result (i : Fin 64) (x : Symbol) (s : State) : (s.setSymbol i x).result = s.result := rfl
@[simp] theorem setSymbol_args (i : Fin 64) (x : Symbol) (s : State) : (s.setSymbol i x).args = s.args := rfl
@[simp] theorem setSymbol_stage (i : Fin 64) (x : Symbol) (s : State) : (s.setSymbol i x).stage = s.stage := rfl
@[simp] theorem setSymbol_clOut (i : Fin 64) (x : Symbol) (s : State) : (s.setSymbol i x).clOut = s.clOut := rfl
@[simp] theorem setSymbol_capOut (i : Fin 64) (x : Symbol) (s : State) : (s.setSymbol i x).capOut = s.capOut := rfl
@[simp] theorem setSymbol_slots (i : Fin 64) (x : Symbol) (s : State) : (s.setSymbol i x).slots = s.slots := rfl
@[simp] theorem setSymbol_channels (i : Fin 64) (x : Symbol) (s : State) : (s.setSymbol i x).channels = s.channels := rfl
@[simp] theorem setSymbol_log (i : Fin 64) (x : Symbol) (s : State) : (s.setSymbol i x).log = s.log := rfl
@[simp] theorem setSymbol_waitList (i : Fin 64) (x : Symbol) (s : State) : (s.setSymbol i x).waitList = s.waitList := rfl
@[simp] theorem setSymbol_exponent (i : Fin 64) (x : Symbol) (s : State) : (s.setSymbol i x).exponent = s.exponent := rfl
@[simp] theorem setSymbol_count (i : Fin 64) (x : Symbol) (s : State) : (s.setSymbol i x).count = s.count := rfl
@[simp] theorem setSymbol_carriers (i : Fin 64) (x : Symbol) (s : State) : (s.setSymbol i x).carriers = s.carriers := rfl
@[simp] theorem setSymbol_pins (i : Fin 64) (x : Symbol) (s : State) : (s.setSymbol i x).pins = s.pins := rfl
@[simp] theorem setSymbol_units (i : Fin 64) (x : Symbol) (s : State) : (s.setSymbol i x).units = s.units := rfl
@[simp] theorem setSymbol_pend (i : Fin 64) (x : Symbol) (s : State) : (s.setSymbol i x).pend = s.pend := rfl
@[simp] theorem setSymbol_enable (i : Fin 64) (x : Symbol) (s : State) : (s.setSymbol i x).enable = s.enable := rfl
@[simp] theorem setSymbol_freeCount (i : Fin 64) (x : Symbol) (s : State) : (s.setSymbol i x).freeCount = s.freeCount := rfl
@[simp] theorem setSymbol_pending (i : Fin 64) (x : Symbol) (s : State) : (s.setSymbol i x).pending = s.pending := rfl
@[simp] theorem setSymbol_inReset (i : Fin 64) (x : Symbol) (s : State) : (s.setSymbol i x).inReset = s.inReset := rfl
@[simp] theorem setSymbol_arg (i : Fin 64) (x : Symbol) (s : State) (k : Fin 6) : (s.setSymbol i x).arg k = s.arg k := rfl
@[simp] theorem setSymbol_channel (i : Fin 64) (x : Symbol) (s : State) (k : Fin 4) : (s.setSymbol i x).channel k = s.channel k := rfl
@[simp] theorem setSymbol_symbol (i : Fin 64) (x : Symbol) (s : State) (k : Fin 64) :
    (s.setSymbol i x).symbol k = if k = i then x else s.symbol k := by
  simp only [State.symbol, State.setSymbol, Fin.getElem_fin, Vector.getElem_set, Fin.val_inj, eq_comm]
@[simp] theorem setSymbol_slot (i : Fin 64) (x : Symbol) (s : State) (k : Fin 32) : (s.setSymbol i x).slot k = s.slot k := rfl
@[simp] theorem setSymbol_carrier (i : Fin 64) (x : Symbol) (s : State) (k : Fin 2) : (s.setSymbol i x).carrier k = s.carrier k := rfl
@[simp] theorem setSymbol_pin (i : Fin 64) (x : Symbol) (s : State) (k : Fin 8) : (s.setSymbol i x).pin k = s.pin k := rfl
@[simp] theorem setSymbol_captureUnit (i : Fin 64) (x : Symbol) (s : State) (k : Fin 2) : (s.setSymbol i x).captureUnit k = s.captureUnit k := rfl

/-! ### setSlot -/

@[simp] theorem setSlot_rstLow (i : Fin 32) (x : Slot) (s : State) : (s.setSlot i x).rstLow = s.rstLow := rfl
@[simp] theorem setSlot_powerHold (i : Fin 32) (x : Slot) (s : State) : (s.setSlot i x).powerHold = s.powerHold := rfl
@[simp] theorem setSlot_selLow (i : Fin 32) (x : Slot) (s : State) : (s.setSlot i x).selLow = s.selLow := rfl
@[simp] theorem setSlot_port (i : Fin 32) (x : Slot) (s : State) : (s.setSlot i x).port = s.port := rfl
@[simp] theorem setSlot_resultCode (i : Fin 32) (x : Slot) (s : State) : (s.setSlot i x).resultCode = s.resultCode := rfl
@[simp] theorem setSlot_result (i : Fin 32) (x : Slot) (s : State) : (s.setSlot i x).result = s.result := rfl
@[simp] theorem setSlot_args (i : Fin 32) (x : Slot) (s : State) : (s.setSlot i x).args = s.args := rfl
@[simp] theorem setSlot_stage (i : Fin 32) (x : Slot) (s : State) : (s.setSlot i x).stage = s.stage := rfl
@[simp] theorem setSlot_clOut (i : Fin 32) (x : Slot) (s : State) : (s.setSlot i x).clOut = s.clOut := rfl
@[simp] theorem setSlot_capOut (i : Fin 32) (x : Slot) (s : State) : (s.setSlot i x).capOut = s.capOut := rfl
@[simp] theorem setSlot_symbols (i : Fin 32) (x : Slot) (s : State) : (s.setSlot i x).symbols = s.symbols := rfl
@[simp] theorem setSlot_channels (i : Fin 32) (x : Slot) (s : State) : (s.setSlot i x).channels = s.channels := rfl
@[simp] theorem setSlot_log (i : Fin 32) (x : Slot) (s : State) : (s.setSlot i x).log = s.log := rfl
@[simp] theorem setSlot_waitList (i : Fin 32) (x : Slot) (s : State) : (s.setSlot i x).waitList = s.waitList := rfl
@[simp] theorem setSlot_exponent (i : Fin 32) (x : Slot) (s : State) : (s.setSlot i x).exponent = s.exponent := rfl
@[simp] theorem setSlot_count (i : Fin 32) (x : Slot) (s : State) : (s.setSlot i x).count = s.count := rfl
@[simp] theorem setSlot_carriers (i : Fin 32) (x : Slot) (s : State) : (s.setSlot i x).carriers = s.carriers := rfl
@[simp] theorem setSlot_pins (i : Fin 32) (x : Slot) (s : State) : (s.setSlot i x).pins = s.pins := rfl
@[simp] theorem setSlot_units (i : Fin 32) (x : Slot) (s : State) : (s.setSlot i x).units = s.units := rfl
@[simp] theorem setSlot_pend (i : Fin 32) (x : Slot) (s : State) : (s.setSlot i x).pend = s.pend := rfl
@[simp] theorem setSlot_enable (i : Fin 32) (x : Slot) (s : State) : (s.setSlot i x).enable = s.enable := rfl
@[simp] theorem setSlot_freeCount (i : Fin 32) (x : Slot) (s : State) : (s.setSlot i x).freeCount = s.freeCount := rfl
@[simp] theorem setSlot_pending (i : Fin 32) (x : Slot) (s : State) : (s.setSlot i x).pending = s.pending := rfl
@[simp] theorem setSlot_inReset (i : Fin 32) (x : Slot) (s : State) : (s.setSlot i x).inReset = s.inReset := rfl
@[simp] theorem setSlot_arg (i : Fin 32) (x : Slot) (s : State) (k : Fin 6) : (s.setSlot i x).arg k = s.arg k := rfl
@[simp] theorem setSlot_channel (i : Fin 32) (x : Slot) (s : State) (k : Fin 4) : (s.setSlot i x).channel k = s.channel k := rfl
@[simp] theorem setSlot_symbol (i : Fin 32) (x : Slot) (s : State) (k : Fin 64) : (s.setSlot i x).symbol k = s.symbol k := rfl
@[simp] theorem setSlot_slot (i : Fin 32) (x : Slot) (s : State) (k : Fin 32) :
    (s.setSlot i x).slot k = if k = i then x else s.slot k := by
  simp only [State.slot, State.setSlot, Fin.getElem_fin, Vector.getElem_set, Fin.val_inj, eq_comm]
@[simp] theorem setSlot_carrier (i : Fin 32) (x : Slot) (s : State) (k : Fin 2) : (s.setSlot i x).carrier k = s.carrier k := rfl
@[simp] theorem setSlot_pin (i : Fin 32) (x : Slot) (s : State) (k : Fin 8) : (s.setSlot i x).pin k = s.pin k := rfl
@[simp] theorem setSlot_captureUnit (i : Fin 32) (x : Slot) (s : State) (k : Fin 2) : (s.setSlot i x).captureUnit k = s.captureUnit k := rfl

/-! ### setCarrier -/

@[simp] theorem setCarrier_rstLow (g : Fin 2) (c : Carrier) (s : State) : (s.setCarrier g c).rstLow = s.rstLow := rfl
@[simp] theorem setCarrier_powerHold (g : Fin 2) (c : Carrier) (s : State) : (s.setCarrier g c).powerHold = s.powerHold := rfl
@[simp] theorem setCarrier_selLow (g : Fin 2) (c : Carrier) (s : State) : (s.setCarrier g c).selLow = s.selLow := rfl
@[simp] theorem setCarrier_port (g : Fin 2) (c : Carrier) (s : State) : (s.setCarrier g c).port = s.port := rfl
@[simp] theorem setCarrier_resultCode (g : Fin 2) (c : Carrier) (s : State) : (s.setCarrier g c).resultCode = s.resultCode := rfl
@[simp] theorem setCarrier_result (g : Fin 2) (c : Carrier) (s : State) : (s.setCarrier g c).result = s.result := rfl
@[simp] theorem setCarrier_args (g : Fin 2) (c : Carrier) (s : State) : (s.setCarrier g c).args = s.args := rfl
@[simp] theorem setCarrier_stage (g : Fin 2) (c : Carrier) (s : State) : (s.setCarrier g c).stage = s.stage := rfl
@[simp] theorem setCarrier_clOut (g : Fin 2) (c : Carrier) (s : State) : (s.setCarrier g c).clOut = s.clOut := rfl
@[simp] theorem setCarrier_capOut (g : Fin 2) (c : Carrier) (s : State) : (s.setCarrier g c).capOut = s.capOut := rfl
@[simp] theorem setCarrier_symbols (g : Fin 2) (c : Carrier) (s : State) : (s.setCarrier g c).symbols = s.symbols := rfl
@[simp] theorem setCarrier_slots (g : Fin 2) (c : Carrier) (s : State) : (s.setCarrier g c).slots = s.slots := rfl
@[simp] theorem setCarrier_channels (g : Fin 2) (c : Carrier) (s : State) : (s.setCarrier g c).channels = s.channels := rfl
@[simp] theorem setCarrier_log (g : Fin 2) (c : Carrier) (s : State) : (s.setCarrier g c).log = s.log := rfl
@[simp] theorem setCarrier_waitList (g : Fin 2) (c : Carrier) (s : State) : (s.setCarrier g c).waitList = s.waitList := rfl
@[simp] theorem setCarrier_exponent (g : Fin 2) (c : Carrier) (s : State) : (s.setCarrier g c).exponent = s.exponent := rfl
@[simp] theorem setCarrier_count (g : Fin 2) (c : Carrier) (s : State) : (s.setCarrier g c).count = s.count := rfl
@[simp] theorem setCarrier_pins (g : Fin 2) (c : Carrier) (s : State) : (s.setCarrier g c).pins = s.pins := rfl
@[simp] theorem setCarrier_units (g : Fin 2) (c : Carrier) (s : State) : (s.setCarrier g c).units = s.units := rfl
@[simp] theorem setCarrier_pend (g : Fin 2) (c : Carrier) (s : State) : (s.setCarrier g c).pend = s.pend := rfl
@[simp] theorem setCarrier_enable (g : Fin 2) (c : Carrier) (s : State) : (s.setCarrier g c).enable = s.enable := rfl
@[simp] theorem setCarrier_freeCount (g : Fin 2) (c : Carrier) (s : State) : (s.setCarrier g c).freeCount = s.freeCount := rfl
@[simp] theorem setCarrier_pending (g : Fin 2) (c : Carrier) (s : State) : (s.setCarrier g c).pending = s.pending := rfl
@[simp] theorem setCarrier_inReset (g : Fin 2) (c : Carrier) (s : State) : (s.setCarrier g c).inReset = s.inReset := rfl
@[simp] theorem setCarrier_arg (g : Fin 2) (c : Carrier) (s : State) (k : Fin 6) : (s.setCarrier g c).arg k = s.arg k := rfl
@[simp] theorem setCarrier_channel (g : Fin 2) (c : Carrier) (s : State) (k : Fin 4) : (s.setCarrier g c).channel k = s.channel k := rfl
@[simp] theorem setCarrier_symbol (g : Fin 2) (c : Carrier) (s : State) (k : Fin 64) : (s.setCarrier g c).symbol k = s.symbol k := rfl
@[simp] theorem setCarrier_slot (g : Fin 2) (c : Carrier) (s : State) (k : Fin 32) : (s.setCarrier g c).slot k = s.slot k := rfl
@[simp] theorem setCarrier_carrier (g : Fin 2) (c : Carrier) (s : State) (k : Fin 2) :
    (s.setCarrier g c).carrier k = if k = g then c else s.carrier k := by
  simp only [State.carrier, State.setCarrier, Fin.getElem_fin, Vector.getElem_set, Fin.val_inj, eq_comm]
@[simp] theorem setCarrier_pin (g : Fin 2) (c : Carrier) (s : State) (k : Fin 8) : (s.setCarrier g c).pin k = s.pin k := rfl
@[simp] theorem setCarrier_captureUnit (g : Fin 2) (c : Carrier) (s : State) (k : Fin 2) : (s.setCarrier g c).captureUnit k = s.captureUnit k := rfl

/-! ### setPin -/

@[simp] theorem setPin_rstLow (p : Fin 8) (x : Pin) (s : State) : (s.setPin p x).rstLow = s.rstLow := rfl
@[simp] theorem setPin_powerHold (p : Fin 8) (x : Pin) (s : State) : (s.setPin p x).powerHold = s.powerHold := rfl
@[simp] theorem setPin_selLow (p : Fin 8) (x : Pin) (s : State) : (s.setPin p x).selLow = s.selLow := rfl
@[simp] theorem setPin_port (p : Fin 8) (x : Pin) (s : State) : (s.setPin p x).port = s.port := rfl
@[simp] theorem setPin_resultCode (p : Fin 8) (x : Pin) (s : State) : (s.setPin p x).resultCode = s.resultCode := rfl
@[simp] theorem setPin_result (p : Fin 8) (x : Pin) (s : State) : (s.setPin p x).result = s.result := rfl
@[simp] theorem setPin_args (p : Fin 8) (x : Pin) (s : State) : (s.setPin p x).args = s.args := rfl
@[simp] theorem setPin_stage (p : Fin 8) (x : Pin) (s : State) : (s.setPin p x).stage = s.stage := rfl
@[simp] theorem setPin_clOut (p : Fin 8) (x : Pin) (s : State) : (s.setPin p x).clOut = s.clOut := rfl
@[simp] theorem setPin_capOut (p : Fin 8) (x : Pin) (s : State) : (s.setPin p x).capOut = s.capOut := rfl
@[simp] theorem setPin_symbols (p : Fin 8) (x : Pin) (s : State) : (s.setPin p x).symbols = s.symbols := rfl
@[simp] theorem setPin_slots (p : Fin 8) (x : Pin) (s : State) : (s.setPin p x).slots = s.slots := rfl
@[simp] theorem setPin_channels (p : Fin 8) (x : Pin) (s : State) : (s.setPin p x).channels = s.channels := rfl
@[simp] theorem setPin_log (p : Fin 8) (x : Pin) (s : State) : (s.setPin p x).log = s.log := rfl
@[simp] theorem setPin_waitList (p : Fin 8) (x : Pin) (s : State) : (s.setPin p x).waitList = s.waitList := rfl
@[simp] theorem setPin_exponent (p : Fin 8) (x : Pin) (s : State) : (s.setPin p x).exponent = s.exponent := rfl
@[simp] theorem setPin_count (p : Fin 8) (x : Pin) (s : State) : (s.setPin p x).count = s.count := rfl
@[simp] theorem setPin_carriers (p : Fin 8) (x : Pin) (s : State) : (s.setPin p x).carriers = s.carriers := rfl
@[simp] theorem setPin_units (p : Fin 8) (x : Pin) (s : State) : (s.setPin p x).units = s.units := rfl
@[simp] theorem setPin_pend (p : Fin 8) (x : Pin) (s : State) : (s.setPin p x).pend = s.pend := rfl
@[simp] theorem setPin_enable (p : Fin 8) (x : Pin) (s : State) : (s.setPin p x).enable = s.enable := rfl
@[simp] theorem setPin_freeCount (p : Fin 8) (x : Pin) (s : State) : (s.setPin p x).freeCount = s.freeCount := rfl
@[simp] theorem setPin_pending (p : Fin 8) (x : Pin) (s : State) : (s.setPin p x).pending = s.pending := rfl
@[simp] theorem setPin_inReset (p : Fin 8) (x : Pin) (s : State) : (s.setPin p x).inReset = s.inReset := rfl
@[simp] theorem setPin_arg (p : Fin 8) (x : Pin) (s : State) (k : Fin 6) : (s.setPin p x).arg k = s.arg k := rfl
@[simp] theorem setPin_channel (p : Fin 8) (x : Pin) (s : State) (k : Fin 4) : (s.setPin p x).channel k = s.channel k := rfl
@[simp] theorem setPin_symbol (p : Fin 8) (x : Pin) (s : State) (k : Fin 64) : (s.setPin p x).symbol k = s.symbol k := rfl
@[simp] theorem setPin_slot (p : Fin 8) (x : Pin) (s : State) (k : Fin 32) : (s.setPin p x).slot k = s.slot k := rfl
@[simp] theorem setPin_carrier (p : Fin 8) (x : Pin) (s : State) (k : Fin 2) : (s.setPin p x).carrier k = s.carrier k := rfl
@[simp] theorem setPin_pin (p : Fin 8) (x : Pin) (s : State) (k : Fin 8) :
    (s.setPin p x).pin k = if k = p then x else s.pin k := by
  simp only [State.pin, State.setPin, Fin.getElem_fin, Vector.getElem_set, Fin.val_inj, eq_comm]
@[simp] theorem setPin_captureUnit (p : Fin 8) (x : Pin) (s : State) (k : Fin 2) : (s.setPin p x).captureUnit k = s.captureUnit k := rfl

/-! ### setUnit -/

@[simp] theorem setUnit_rstLow (u : Fin 2) (x : CaptureUnit) (s : State) : (s.setUnit u x).rstLow = s.rstLow := rfl
@[simp] theorem setUnit_powerHold (u : Fin 2) (x : CaptureUnit) (s : State) : (s.setUnit u x).powerHold = s.powerHold := rfl
@[simp] theorem setUnit_selLow (u : Fin 2) (x : CaptureUnit) (s : State) : (s.setUnit u x).selLow = s.selLow := rfl
@[simp] theorem setUnit_port (u : Fin 2) (x : CaptureUnit) (s : State) : (s.setUnit u x).port = s.port := rfl
@[simp] theorem setUnit_resultCode (u : Fin 2) (x : CaptureUnit) (s : State) : (s.setUnit u x).resultCode = s.resultCode := rfl
@[simp] theorem setUnit_result (u : Fin 2) (x : CaptureUnit) (s : State) : (s.setUnit u x).result = s.result := rfl
@[simp] theorem setUnit_args (u : Fin 2) (x : CaptureUnit) (s : State) : (s.setUnit u x).args = s.args := rfl
@[simp] theorem setUnit_stage (u : Fin 2) (x : CaptureUnit) (s : State) : (s.setUnit u x).stage = s.stage := rfl
@[simp] theorem setUnit_clOut (u : Fin 2) (x : CaptureUnit) (s : State) : (s.setUnit u x).clOut = s.clOut := rfl
@[simp] theorem setUnit_capOut (u : Fin 2) (x : CaptureUnit) (s : State) : (s.setUnit u x).capOut = s.capOut := rfl
@[simp] theorem setUnit_symbols (u : Fin 2) (x : CaptureUnit) (s : State) : (s.setUnit u x).symbols = s.symbols := rfl
@[simp] theorem setUnit_slots (u : Fin 2) (x : CaptureUnit) (s : State) : (s.setUnit u x).slots = s.slots := rfl
@[simp] theorem setUnit_channels (u : Fin 2) (x : CaptureUnit) (s : State) : (s.setUnit u x).channels = s.channels := rfl
@[simp] theorem setUnit_log (u : Fin 2) (x : CaptureUnit) (s : State) : (s.setUnit u x).log = s.log := rfl
@[simp] theorem setUnit_waitList (u : Fin 2) (x : CaptureUnit) (s : State) : (s.setUnit u x).waitList = s.waitList := rfl
@[simp] theorem setUnit_exponent (u : Fin 2) (x : CaptureUnit) (s : State) : (s.setUnit u x).exponent = s.exponent := rfl
@[simp] theorem setUnit_count (u : Fin 2) (x : CaptureUnit) (s : State) : (s.setUnit u x).count = s.count := rfl
@[simp] theorem setUnit_carriers (u : Fin 2) (x : CaptureUnit) (s : State) : (s.setUnit u x).carriers = s.carriers := rfl
@[simp] theorem setUnit_pins (u : Fin 2) (x : CaptureUnit) (s : State) : (s.setUnit u x).pins = s.pins := rfl
@[simp] theorem setUnit_pend (u : Fin 2) (x : CaptureUnit) (s : State) : (s.setUnit u x).pend = s.pend := rfl
@[simp] theorem setUnit_enable (u : Fin 2) (x : CaptureUnit) (s : State) : (s.setUnit u x).enable = s.enable := rfl
@[simp] theorem setUnit_freeCount (u : Fin 2) (x : CaptureUnit) (s : State) : (s.setUnit u x).freeCount = s.freeCount := rfl
@[simp] theorem setUnit_pending (u : Fin 2) (x : CaptureUnit) (s : State) : (s.setUnit u x).pending = s.pending := rfl
@[simp] theorem setUnit_inReset (u : Fin 2) (x : CaptureUnit) (s : State) : (s.setUnit u x).inReset = s.inReset := rfl
@[simp] theorem setUnit_arg (u : Fin 2) (x : CaptureUnit) (s : State) (k : Fin 6) : (s.setUnit u x).arg k = s.arg k := rfl
@[simp] theorem setUnit_channel (u : Fin 2) (x : CaptureUnit) (s : State) (k : Fin 4) : (s.setUnit u x).channel k = s.channel k := rfl
@[simp] theorem setUnit_symbol (u : Fin 2) (x : CaptureUnit) (s : State) (k : Fin 64) : (s.setUnit u x).symbol k = s.symbol k := rfl
@[simp] theorem setUnit_slot (u : Fin 2) (x : CaptureUnit) (s : State) (k : Fin 32) : (s.setUnit u x).slot k = s.slot k := rfl
@[simp] theorem setUnit_carrier (u : Fin 2) (x : CaptureUnit) (s : State) (k : Fin 2) : (s.setUnit u x).carrier k = s.carrier k := rfl
@[simp] theorem setUnit_pin (u : Fin 2) (x : CaptureUnit) (s : State) (k : Fin 8) : (s.setUnit u x).pin k = s.pin k := rfl
@[simp] theorem setUnit_captureUnit (u : Fin 2) (x : CaptureUnit) (s : State) (k : Fin 2) :
    (s.setUnit u x).captureUnit k = if k = u then x else s.captureUnit k := by
  simp only [State.captureUnit, State.setUnit, Fin.getElem_fin, Vector.getElem_set, Fin.val_inj, eq_comm]

/-! ### setResult -/

@[simp] theorem setResult_rstLow (code : BitVec 8) (r : Result) (s : State) : (s.setResult code r).rstLow = s.rstLow := rfl
@[simp] theorem setResult_powerHold (code : BitVec 8) (r : Result) (s : State) : (s.setResult code r).powerHold = s.powerHold := rfl
@[simp] theorem setResult_selLow (code : BitVec 8) (r : Result) (s : State) : (s.setResult code r).selLow = s.selLow := rfl
@[simp] theorem setResult_port (code : BitVec 8) (r : Result) (s : State) : (s.setResult code r).port = s.port := rfl
@[simp] theorem setResult_args (code : BitVec 8) (r : Result) (s : State) : (s.setResult code r).args = s.args := rfl
@[simp] theorem setResult_stage (code : BitVec 8) (r : Result) (s : State) : (s.setResult code r).stage = s.stage := rfl
@[simp] theorem setResult_clOut (code : BitVec 8) (r : Result) (s : State) : (s.setResult code r).clOut = s.clOut := rfl
@[simp] theorem setResult_capOut (code : BitVec 8) (r : Result) (s : State) : (s.setResult code r).capOut = s.capOut := rfl
@[simp] theorem setResult_symbols (code : BitVec 8) (r : Result) (s : State) : (s.setResult code r).symbols = s.symbols := rfl
@[simp] theorem setResult_slots (code : BitVec 8) (r : Result) (s : State) : (s.setResult code r).slots = s.slots := rfl
@[simp] theorem setResult_channels (code : BitVec 8) (r : Result) (s : State) : (s.setResult code r).channels = s.channels := rfl
@[simp] theorem setResult_log (code : BitVec 8) (r : Result) (s : State) : (s.setResult code r).log = s.log := rfl
@[simp] theorem setResult_waitList (code : BitVec 8) (r : Result) (s : State) : (s.setResult code r).waitList = s.waitList := rfl
@[simp] theorem setResult_exponent (code : BitVec 8) (r : Result) (s : State) : (s.setResult code r).exponent = s.exponent := rfl
@[simp] theorem setResult_count (code : BitVec 8) (r : Result) (s : State) : (s.setResult code r).count = s.count := rfl
@[simp] theorem setResult_carriers (code : BitVec 8) (r : Result) (s : State) : (s.setResult code r).carriers = s.carriers := rfl
@[simp] theorem setResult_pins (code : BitVec 8) (r : Result) (s : State) : (s.setResult code r).pins = s.pins := rfl
@[simp] theorem setResult_units (code : BitVec 8) (r : Result) (s : State) : (s.setResult code r).units = s.units := rfl
@[simp] theorem setResult_pend (code : BitVec 8) (r : Result) (s : State) : (s.setResult code r).pend = s.pend := rfl
@[simp] theorem setResult_enable (code : BitVec 8) (r : Result) (s : State) : (s.setResult code r).enable = s.enable := rfl
@[simp] theorem setResult_freeCount (code : BitVec 8) (r : Result) (s : State) : (s.setResult code r).freeCount = s.freeCount := rfl
@[simp] theorem setResult_pending (code : BitVec 8) (r : Result) (s : State) : (s.setResult code r).pending = s.pending := rfl
@[simp] theorem setResult_inReset (code : BitVec 8) (r : Result) (s : State) : (s.setResult code r).inReset = s.inReset := rfl
@[simp] theorem setResult_arg (code : BitVec 8) (r : Result) (s : State) (k : Fin 6) : (s.setResult code r).arg k = s.arg k := rfl
@[simp] theorem setResult_channel (code : BitVec 8) (r : Result) (s : State) (k : Fin 4) : (s.setResult code r).channel k = s.channel k := rfl
@[simp] theorem setResult_symbol (code : BitVec 8) (r : Result) (s : State) (k : Fin 64) : (s.setResult code r).symbol k = s.symbol k := rfl
@[simp] theorem setResult_slot (code : BitVec 8) (r : Result) (s : State) (k : Fin 32) : (s.setResult code r).slot k = s.slot k := rfl
@[simp] theorem setResult_carrier (code : BitVec 8) (r : Result) (s : State) (k : Fin 2) : (s.setResult code r).carrier k = s.carrier k := rfl
@[simp] theorem setResult_pin (code : BitVec 8) (r : Result) (s : State) (k : Fin 8) : (s.setResult code r).pin k = s.pin k := rfl
@[simp] theorem setResult_captureUnit (code : BitVec 8) (r : Result) (s : State) (k : Fin 2) : (s.setResult code r).captureUnit k = s.captureUnit k := rfl

/-! ### setFlag -/

@[simp] theorem setFlag_rstLow (f : Flag) (s : State) : (s.setFlag f).rstLow = s.rstLow := rfl
@[simp] theorem setFlag_powerHold (f : Flag) (s : State) : (s.setFlag f).powerHold = s.powerHold := rfl
@[simp] theorem setFlag_selLow (f : Flag) (s : State) : (s.setFlag f).selLow = s.selLow := rfl
@[simp] theorem setFlag_port (f : Flag) (s : State) : (s.setFlag f).port = s.port := rfl
@[simp] theorem setFlag_resultCode (f : Flag) (s : State) : (s.setFlag f).resultCode = s.resultCode := rfl
@[simp] theorem setFlag_result (f : Flag) (s : State) : (s.setFlag f).result = s.result := rfl
@[simp] theorem setFlag_args (f : Flag) (s : State) : (s.setFlag f).args = s.args := rfl
@[simp] theorem setFlag_stage (f : Flag) (s : State) : (s.setFlag f).stage = s.stage := rfl
@[simp] theorem setFlag_clOut (f : Flag) (s : State) : (s.setFlag f).clOut = s.clOut := rfl
@[simp] theorem setFlag_capOut (f : Flag) (s : State) : (s.setFlag f).capOut = s.capOut := rfl
@[simp] theorem setFlag_symbols (f : Flag) (s : State) : (s.setFlag f).symbols = s.symbols := rfl
@[simp] theorem setFlag_slots (f : Flag) (s : State) : (s.setFlag f).slots = s.slots := rfl
@[simp] theorem setFlag_channels (f : Flag) (s : State) : (s.setFlag f).channels = s.channels := rfl
@[simp] theorem setFlag_log (f : Flag) (s : State) : (s.setFlag f).log = s.log := rfl
@[simp] theorem setFlag_waitList (f : Flag) (s : State) : (s.setFlag f).waitList = s.waitList := rfl
@[simp] theorem setFlag_exponent (f : Flag) (s : State) : (s.setFlag f).exponent = s.exponent := rfl
@[simp] theorem setFlag_count (f : Flag) (s : State) : (s.setFlag f).count = s.count := rfl
@[simp] theorem setFlag_carriers (f : Flag) (s : State) : (s.setFlag f).carriers = s.carriers := rfl
@[simp] theorem setFlag_pins (f : Flag) (s : State) : (s.setFlag f).pins = s.pins := rfl
@[simp] theorem setFlag_units (f : Flag) (s : State) : (s.setFlag f).units = s.units := rfl
@[simp] theorem setFlag_enable (f : Flag) (s : State) : (s.setFlag f).enable = s.enable := rfl
@[simp] theorem setFlag_freeCount (f : Flag) (s : State) : (s.setFlag f).freeCount = s.freeCount := rfl
@[simp] theorem setFlag_pending (f : Flag) (s : State) : (s.setFlag f).pending = s.pending := rfl
@[simp] theorem setFlag_inReset (f : Flag) (s : State) : (s.setFlag f).inReset = s.inReset := rfl
@[simp] theorem setFlag_arg (f : Flag) (s : State) (k : Fin 6) : (s.setFlag f).arg k = s.arg k := rfl
@[simp] theorem setFlag_channel (f : Flag) (s : State) (k : Fin 4) : (s.setFlag f).channel k = s.channel k := rfl
@[simp] theorem setFlag_symbol (f : Flag) (s : State) (k : Fin 64) : (s.setFlag f).symbol k = s.symbol k := rfl
@[simp] theorem setFlag_slot (f : Flag) (s : State) (k : Fin 32) : (s.setFlag f).slot k = s.slot k := rfl
@[simp] theorem setFlag_carrier (f : Flag) (s : State) (k : Fin 2) : (s.setFlag f).carrier k = s.carrier k := rfl
@[simp] theorem setFlag_pin (f : Flag) (s : State) (k : Fin 8) : (s.setFlag f).pin k = s.pin k := rfl
@[simp] theorem setFlag_captureUnit (f : Flag) (s : State) (k : Fin 2) : (s.setFlag f).captureUnit k = s.captureUnit k := rfl

@[simp] theorem setResult_result (code : BitVec 8) (r : Result) (s : State) : (s.setResult code r).result = r := rfl
@[simp] theorem setResult_resultCode (code : BitVec 8) (r : Result) (s : State) :
    (s.setResult code r).resultCode = code := rfl

/-! ### Tables -/

/-- An entry of a mapped table. -/
@[simp] theorem mapTable_getElem {α β : Type} {n : Nat} (f : α → β) (v : Vector α n) (i : Nat) (h : i < n) :
    (mapTable f v)[i] = f v[i] := by
  simp [mapTable]

/-- A mapped table as a list. -/
@[simp] theorem mapTable_toList {α β : Type} {n : Nat} (f : α → β) (v : Vector α n) :
    (mapTable f v).toList = v.toList.map f := by
  simp [mapTable, Vector.toList]

end Sys2Proof.Machine.Laws
end

