-- ==== Sys2Proof/Laws/Ops.lean ====
section
/-! SUPPORT. One lemma for each shared operation, saying once everything that it does. -/

namespace Sys2Proof.Machine.Laws

open Sys2Proof Sys2Proof.Machine

/-! ### Words completed at the host port -/

/-- A word completed at its register: the effect, then the pointer. -/
theorem completeWord_at {r : Reg} {s : State} (h : s.AtWrite r) (f : State → State) :
    completeWord r f s = { f s with port := (f s).port.advance } := by
  simp only [completeWord, if_pos h]

/-- Where no word is completed at the register, nothing happens. -/
theorem completeWord_elsewhere {r : Reg} {s : State} (h : ¬ s.AtWrite r) (f : State → State) :
    completeWord r f s = s := by
  simp only [completeWord, if_neg h]

/-- A command that passes its checks. -/
theorem commandWord_ok {c : Command} {f : State → Except Result State} {s t : State} (h : s.AtWrite .cmd)
    (hf : f s = .ok t) :
    commandWord c f s = { t.setResult c.code .ok with port := t.port.advance } := by
  rw [commandWord, completeWord_at h]
  simp [arrive, hf]

/-- A command that fails a check. -/
theorem commandWord_error {c : Command} {f : State → Except Result State} {s : State} {r : Result}
    (h : s.AtWrite .cmd) (hf : f s = .error r) :
    commandWord c f s = { s.setResult c.code r with port := s.port.advance } := by
  rw [commandWord, completeWord_at h]
  simp [arrive, hf]

/-- Everything a completed word can do: its effect and the pointer's move, or nothing. -/
theorem completeWord_cases (r : Reg) (f : State → State) (s : State) :
    (s.AtWrite r ∧ completeWord r f s = { f s with port := (f s).port.advance })
      ∨ (¬ s.AtWrite r ∧ completeWord r f s = s) := by
  by_cases h : s.AtWrite r
  · exact .inl ⟨h, completeWord_at h f⟩
  · exact .inr ⟨h, completeWord_elsewhere h f⟩

/-- Everything a command word can do: its effect with OK, a refusal that changes only RESULT, or nothing. -/
theorem commandWord_cases (c : Command) (f : State → Except Result State) (s : State) :
    (∃ t, s.AtWrite .cmd ∧ f s = .ok t ∧
        commandWord c f s = { t.setResult c.code .ok with port := t.port.advance })
      ∨ (∃ r, s.AtWrite .cmd ∧ f s = .error r ∧
        commandWord c f s = { s.setResult c.code r with port := s.port.advance })
      ∨ (¬ s.AtWrite .cmd ∧ commandWord c f s = s) := by
  by_cases h : s.AtWrite .cmd
  · cases hf : f s with
    | ok t => exact .inl ⟨t, h, rfl, commandWord_ok h hf⟩
    | error r => exact .inr (.inl ⟨r, h, rfl, commandWord_error h hf⟩)
  · exact .inr (.inr ⟨h, completeWord_elsewhere h _⟩)

/-- An event while no full reset lasts. -/
theorem internalEvent_of {s : State} (h : s.inReset = false) (f : State → State) : internalEvent f s = f s := by
  simp [internalEvent, h]

/-- An event while a full reset lasts. -/
theorem internalEvent_reset {s : State} (h : s.inReset = true) (f : State → State) : internalEvent f s = s := by
  simp [internalEvent, h]

/-! ### Indices -/

theorem index?_some {n : Nat} {w : Word} {i : Fin n} (h : w.toNat = i) : index? n w = some i := by
  simp [index?, h]

theorem index?_none {n : Nat} {w : Word} (h : n ≤ w.toNat) : index? n w = none := by
  simp [index?, Nat.not_lt.mpr h]

theorem index?_eq_some {n : Nat} {w : Word} {i : Fin n} : index? n w = some i ↔ w.toNat = i := by
  constructor
  · intro h
    unfold index? at h
    split at h
    · cases h; rfl
    · cases h
  · exact index?_some

/-! ### Two states with the same tables -/

/-- Two symbol tables that agree at every index are one. -/
theorem symbols_ext {v w : Vector Symbol 64} (h : ∀ i : Fin 64, v[i] = w[i]) : v = w :=
  Vector.ext (fun i hi => h ⟨i, hi⟩)

/-- Two sequence stores that agree at every index are one. -/
theorem slots_ext {v w : Vector Slot 32} (h : ∀ i : Fin 32, v[i] = w[i]) : v = w :=
  Vector.ext (fun i hi => h ⟨i, hi⟩)

/-! ### Reference counts and frame counts -/

/-- Raising: each symbol's count rises by the positions that name it, and nothing else changes. -/
theorem raiseRefs_eq (l : List (Fin 64)) (s : State) :
    s.raiseRefs l = { s with
      symbols := Vector.ofFn (fun j => { s.symbol j with refs := (s.symbol j).refs + l.count j }) } := by
  induction l generalizing s with
  | nil =>
    have : s.symbols = Vector.ofFn (fun j => { s.symbol j with refs := (s.symbol j).refs }) :=
      symbols_ext (fun i => by simp [State.symbol])
    simpa [State.raiseRefs] using congrArg (fun v => { s with symbols := v }) this
  | cons i l ih =>
    have h := ih (s.setSymbol i { s.symbol i with refs := (s.symbol i).refs + 1 })
    simp only [State.raiseRefs, List.foldl_cons] at h ⊢
    rw [h]
    simp only [State.setSymbol, State.mk.injEq, true_and, and_true]
    refine symbols_ext (fun j => ?_)
    by_cases hj : j = i
    · subst hj
      simp [State.symbol]
      omega
    · have hv : ¬ i.val = j.val := fun e => hj (Fin.ext e.symm)
      have hij : i ≠ j := fun e => hj e.symm
      simp [State.symbol, Vector.getElem_set, hv, List.count_cons, hij]

/-- Lowering: each symbol's count falls by the positions that name it, and nothing else changes. -/
theorem lowerRefs_eq (l : List (Fin 64)) (s : State) :
    s.lowerRefs l = { s with
      symbols := Vector.ofFn (fun j => { s.symbol j with refs := (s.symbol j).refs - l.count j }) } := by
  induction l generalizing s with
  | nil =>
    have : s.symbols = Vector.ofFn (fun j => { s.symbol j with refs := (s.symbol j).refs }) :=
      symbols_ext (fun i => by simp [State.symbol])
    simpa [State.lowerRefs] using congrArg (fun v => { s with symbols := v }) this
  | cons i l ih =>
    have h := ih (s.setSymbol i { s.symbol i with refs := (s.symbol i).refs - 1 })
    simp only [State.lowerRefs, List.foldl_cons] at h ⊢
    rw [h]
    simp only [State.setSymbol, State.mk.injEq, true_and, and_true]
    refine symbols_ext (fun j => ?_)
    by_cases hj : j = i
    · subst hj
      simp [State.symbol]
      omega
    · have hv : ¬ i.val = j.val := fun e => hj (Fin.ext e.symm)
      have hij : i ≠ j := fun e => hj e.symm
      simp [State.symbol, Vector.getElem_set, hv, List.count_cons, hij]

/-- Each slot's frame count falls by the descriptors that named it, and nothing else changes. -/
theorem lowerFrames_eq (l : List Descriptor) (s : State) :
    s.lowerFrames l = { s with
      slots := Vector.ofFn (fun j =>
        { s.slot j with frames := (s.slot j).frames - l.countP (fun d => d.slot = j) }) } := by
  induction l generalizing s with
  | nil =>
    have : s.slots = Vector.ofFn (fun j => { s.slot j with frames := (s.slot j).frames }) :=
      slots_ext (fun i => by simp [State.slot])
    simpa [State.lowerFrames] using congrArg (fun v => { s with slots := v }) this
  | cons d l ih =>
    have h := ih (s.setSlot d.slot { s.slot d.slot with frames := (s.slot d.slot).frames - 1 })
    simp only [State.lowerFrames, List.foldl_cons] at h ⊢
    rw [h]
    simp only [State.setSlot, State.mk.injEq, true_and, and_true]
    refine slots_ext (fun j => ?_)
    by_cases hj : j = d.slot
    · subst hj
      simp [State.slot]
      omega
    · have hv : ¬ d.slot.val = j.val := fun e => hj (Fin.ext e.symm)
      have hij : d.slot ≠ j := fun e => hj e.symm
      simp [State.slot, Vector.getElem_set, hv, List.countP_cons, hij]

end Sys2Proof.Machine.Laws
end

