-- ==== Sys2Proof/Laws/Capture.lean ====
section
/-! SUPPORT. What the operations of capture units, decoders and capture logs can do, once each. -/

namespace Sys2Proof.Machine.Laws

open Sys2Proof Sys2Proof.Machine

/-! ### Capture logs -/

/-- The youngest record of a log that ends in r. -/
@[simp] theorem youngestIsOverrun_append (l : List CaptureRecord) (r : CaptureRecord) :
    youngestIsOverrun (l ++ [r]) = r.isOverrun := by
  simp [youngestIsOverrun]

/-- Changing the youngest record of a log that ends in r. -/
@[simp] theorem changeYoungest_append (f : CaptureRecord → CaptureRecord) (l : List CaptureRecord)
    (r : CaptureRecord) : changeYoungest f (l ++ [r]) = l ++ [f r] := by
  simp [changeYoungest]

@[simp] theorem changeYoungest_length (f : CaptureRecord → CaptureRecord) (l : List CaptureRecord) :
    (changeYoungest f l).length = l.length := by
  rcases List.eq_nil_or_concat l with rfl | ⟨l', r, rfl⟩
  · rfl
  · simp

/-- A record enters a log: the log at the tail, and perhaps CAPn_DATA. -/
theorem enterCaptureLog_cases (u : Fin 2) (r : CaptureRecord) (s : State) :
    let t := s.setUnit u { s.captureUnit u with log := (s.captureUnit u).log ++ [r] }
    enterCaptureLog u r s = t.setFlag (.capData u) ∨ enterCaptureLog u r s = t := by
  unfold enterCaptureLog
  split
  · exact .inl rfl
  · exact .inr rfl

/-- A record offered: it enters the log, or an OVERRUN record does in its place, or the youngest record's lost count
rises. -/
theorem offerRecord_cases (u : Fin 2) (r : CaptureRecord) (s : State) :
    ((s.captureUnit u).log.length + 2 ≤ 48 ∧ offerRecord u r s = enterCaptureLog u r s)
    ∨ ((s.captureUnit u).log.length + 1 = 48 ∧ youngestIsOverrun (s.captureUnit u).log = false
      ∧ offerRecord u r s = (enterCaptureLog u (.overrun 1) s).setFlag (.capOvr u))
    ∨ (47 ≤ (s.captureUnit u).log.length
      ∧ ((s.captureUnit u).log.length = 47 → youngestIsOverrun (s.captureUnit u).log = true)
      ∧ offerRecord u r s = s.setUnit u
        { s.captureUnit u with log := changeYoungest .raiseLost (s.captureUnit u).log }) := by
  unfold offerRecord
  simp only
  split
  · rename_i h; exact .inl ⟨h, rfl⟩
  · split
    · rename_i h; exact .inr (.inl ⟨h.1, h.2, rfl⟩)
    · rename_i h1 h2
      refine .inr (.inr ⟨by omega, fun e => ?_, rfl⟩)
      by_contra hy
      exact h2 ⟨by omega, by simpa using hy⟩

/-- The frame of an offer: only the unit's log and the pending flags change. -/
theorem offerRecord_frame (u : Fin 2) (r : CaptureRecord) (s : State) :
    ∃ log pend, offerRecord u r s =
      { s.setUnit u { s.captureUnit u with log := log } with pend := pend } := by
  rcases offerRecord_cases u r s with ⟨_, h⟩ | ⟨_, _, h⟩ | ⟨_, _, h⟩
  · rcases enterCaptureLog_cases u r s with h' | h' <;> rw [h, h'] <;> exact ⟨_, _, rfl⟩
  · rcases enterCaptureLog_cases u (.overrun 1) s with h' | h' <;> rw [h, h'] <;> exact ⟨_, _, rfl⟩
  · rw [h]; exact ⟨_, _, rfl⟩

/-- Giving a unit, and the pending flags, what they hold already changes nothing. -/
theorem setUnit_self (u : Fin 2) (s : State) :
    ({ s.setUnit u (s.captureUnit u) with pend := s.pend } : State) = s := by
  simp [State.setUnit, State.captureUnit]

/-- A unit's log and the pending flags set, and then set again. -/
theorem setLog_setLog (u : Fin 2) (s : State) (l l' : List CaptureRecord) (p p' : Vector Word 2) :
    let t : State := { s.setUnit u { s.captureUnit u with log := l } with pend := p }
    ({ t.setUnit u { t.captureUnit u with log := l' } with pend := p' } : State)
      = { s.setUnit u { s.captureUnit u with log := l' } with pend := p' } := by
  simp [State.setUnit, State.captureUnit]

/-- The frame of several offers. -/
theorem offerAll_frame (u : Fin 2) (l : List CaptureRecord) (s : State) :
    ∃ log pend, offerAll u l s = { s.setUnit u { s.captureUnit u with log := log } with pend := pend } := by
  induction l generalizing s with
  | nil =>
    exact ⟨(s.captureUnit u).log, s.pend, (setUnit_self u s).symm⟩
  | cons r l ih =>
    obtain ⟨lg, p, h⟩ := offerRecord_frame u r s
    obtain ⟨lg', p', h'⟩ := ih (offerRecord u r s)
    refine ⟨lg', p', ?_⟩
    rw [offerAll, h', h]
    exact setLog_setLog u s lg lg' p p'

/-! ### Decoders -/

/-- The frame of a decoder's work: only the unit's pending list, held match and log, and the pending flags, change. -/
theorem keepWork_frame (u : Fin 2) (w : Work) (s : State) :
    ∃ log pend, keepWork u w s = { s.setUnit u { s.captureUnit u with
      pendingList := itemPhases w.list, held := w.held, log := log } with pend := pend } := by
  obtain ⟨log, pend, h⟩ := offerAll_frame u w.out
    (s.modUnit u (fun c => { c with pendingList := itemPhases w.list, held := w.held }))
  refine ⟨log, pend, ?_⟩
  rw [keepWork, h]
  simp [State.setUnit, State.captureUnit]

/-- Everything the decoder does with one item: a symbol, a held match, waiting, or a fallback. -/
theorem takeItem_cases (s : State) (set : List (Fin 64)) (x : Item) (w : Work) :
    let l := w.list ++ [x]
    (∃ m, firstFull s set l = some m ∧ hasLonger s set l = false
      ∧ takeItem s set x w = ({ list := [], held := none, out := w.out ++ [symbolRecord s m] }, []))
    ∨ (∃ m, firstFull s set l = some m ∧ hasLonger s set l = true
      ∧ takeItem s set x w = ({ w with list := l, held := some { member := m, length := l.length } }, []))
    ∨ (firstFull s set l = none ∧ hasLonger s set l = true ∧ takeItem s set x w = ({ w with list := l }, []))
    ∨ (firstFull s set l = none ∧ hasLonger s set l = false
      ∧ takeItem s set x w
        = ({ fallBack s { w with list := l } with list := [] }, (fallBack s { w with list := l }).list)) := by
  simp only [takeItem]
  cases hf : firstFull s set (w.list ++ [x]) <;> cases hl : hasLonger s set (w.list ++ [x]) <;> simp

/-- A full match is a member that has as many phases as the list. -/
theorem firstFull_spec {s : State} {set : List (Fin 64)} {l : List Item} {m : Fin 64}
    (h : firstFull s set l = some m) : m ∈ set ∧ isCandidate s l m = true ∧ (s.symbol m).lengths.length = l.length := by
  have h1 := List.find?_some h
  have h2 := List.mem_of_find?_eq_some h
  rw [candidates, List.mem_filter] at h2
  exact ⟨h2.1, h2.2, by simpa using h1⟩

/-- A longer candidate is a member that has more phases than the list. -/
theorem hasLonger_spec {s : State} {set : List (Fin 64)} {l : List Item} (h : hasLonger s set l = true) :
    ∃ m ∈ set, isCandidate s l m = true ∧ l.length < (s.symbol m).lengths.length := by
  simp only [hasLonger, List.any_eq_true, candidates, List.mem_filter, decide_eq_true_eq] at h
  obtain ⟨m, ⟨h1, h2⟩, h3⟩ := h
  exact ⟨m, h1, h2, h3⟩

/-! ### Frame ends -/

/-- The frame of a flush: only the unit's decoder and log, and the pending flags, change. -/
theorem flushUnit_frame (u : Fin 2) (o : Option Phase) (s : State) :
    ∃ pl h log pend, flushUnit u o s = { s.setUnit u { s.captureUnit u with
      pendingList := pl, held := h, log := log } with pend := pend } := by
  unfold flushUnit
  split
  · exact ⟨(s.captureUnit u).pendingList, (s.captureUnit u).held, (s.captureUnit u).log, s.pend,
      (setUnit_self u s).symm⟩
  · unfold decodeFlush
    cases o with
    | none =>
      obtain ⟨log, pend, h⟩ := keepWork_frame u
        (flushAll s (s.captureUnit u).decodeSet ((s.captureUnit u).work.list.length + 1) (s.captureUnit u).work) s
      exact ⟨_, _, log, pend, h⟩
    | some p =>
      obtain ⟨log, pend, h⟩ := keepWork_frame u (flushAll s (s.captureUnit u).decodeSet
        ((feed s (s.captureUnit u).decodeSet [{ phase := p, isOpen := true }] (s.captureUnit u).work).list.length + 1)
        (feed s (s.captureUnit u).decodeSet [{ phase := p, isOpen := true }] (s.captureUnit u).work)) s
      exact ⟨_, _, log, pend, h⟩

end Sys2Proof.Machine.Laws
end

