-- ==== Sys2Proof/Laws/Channels.lean ====
section
/-! SUPPORT. What the operations of channels, queues and the completion log can do, once each: every other lemma cites
these and unfolds none of them. -/

namespace Sys2Proof.Machine.Laws

open Sys2Proof Sys2Proof.Machine

/-! ### Flags -/

/-- CL_FULL is set or nothing happens. -/
theorem examineFull_cases (before : Nat) (s : State) :
    (before < 16 ∧ s.log.length = 16 ∧ examineFull before s = s.setFlag .clFull) ∨ examineFull before s = s := by
  unfold examineFull
  split
  · rename_i h; exact .inl ⟨h.1, h.2, rfl⟩
  · exact .inr rfl

/-- TXn_LOW is set or nothing happens. -/
theorem examineLow_cases (n : Fin 4) (before after wOld wNew : Nat) (s : State) :
    examineLow n before after wOld wNew s = s.setFlag (.txLow n) ∨ examineLow n before after wOld wNew s = s := by
  unfold examineLow
  split
  · exact .inl rfl
  · exact .inr rfl

/-- With one watermark throughout, TXn_LOW is set exactly when the departure crosses it. -/
theorem examineLow_same (n : Fin 4) (before after w : Nat) (s : State) :
    examineLow n before after w w s = if w < before ∧ after ≤ w then s.setFlag (.txLow n) else s := by
  simp [examineLow, crossesEither, crosses]

/-! ### A beat event to take -/

/-- A channel can start its head exactly when it is enabled with a queue that is not empty. -/
@[simp] theorem canStart_iff (ch : Channel) : ch.canStart = true ↔ ch.enabled = true ∧ ch.queue ≠ [] := by
  simp [Channel.canStart]

/-- Taking a beat event clears one channel's mark. -/
@[simp] theorem beatTaken_eq (n : Fin 4) (s : State) :
    beatTaken n s = s.setChannel n { s.channel n with beatDue := false } := rfl

/-- Dropping a beat event clears every channel's mark. -/
@[simp] theorem dropBeat_channel (s : State) (n : Fin 4) :
    (dropBeat s).channel n = { s.channel n with beatDue := false } := by
  simp [dropBeat, State.channel]

/-! ### Records and the wait list -/

/-- A record enters the log and sets TXn_DONE. -/
theorem postRecord_eq (r : Completion) (s : State) :
    postRecord r s = State.setFlag (.txDone r.channel) { s with log := s.log ++ [r] } := rfl

/-- A channel enters HELD: its state, its hold, and TXn_HELD; an untaken beat event is gone. -/
theorem enterHeld_eq (n : Fin 4) (c : Option Context) (s : State) :
    enterHeld n c s
      = (s.setChannel n { s.channel n with
          state := .held c, holdPending := false, beatDue := false }).setFlag (.txHeld n) := rfl

/-- A channel whose record is in the log goes on to HELD without a frame, or to IDLE with an untaken beat event only if it
can start at it. -/
theorem afterPosted_cases (n : Fin 4) (s : State) :
    ((s.channel n).holdPending = true ∧ afterPosted n s
      = (s.setChannel n { s.channel n with
          state := .held none, holdPending := false, beatDue := false }).setFlag (.txHeld n))
    ∨ ((s.channel n).holdPending = false ∧ afterPosted n s
      = s.setChannel n { s.channel n with
          state := .idle, beatDue := (s.channel n).beatDue && (s.channel n).canStart }) := by
  unfold afterPosted
  cases h : (s.channel n).holdPending
  · exact .inr ⟨rfl, by simp⟩
  · exact .inl ⟨rfl, by simp [enterHeld_eq]⟩

/-- A frame-end record enters the log, or its channel waits with it. -/
theorem handRecord_cases (n : Fin 4) (r : Completion) (s : State) :
    (s.log.length < 16 ∧ handRecord n r s = afterPosted n (examineFull s.log.length (postRecord r s)))
    ∨ (16 ≤ s.log.length ∧ handRecord n r s =
      { s.setChannel n { s.channel n with state := .logwait r, beatDue := false } with
        waitList := s.waitList ++ [n] }) := by
  unfold handRecord
  split
  · rename_i h; exact .inl ⟨h, rfl⟩
  · rename_i h; exact .inr ⟨Nat.le_of_not_lt h, rfl⟩

/-- The head of the wait list is admitted, or nothing happens. -/
theorem admitWaiting_cases (s : State) :
    (∃ n rest r, s.waitList = n :: rest ∧ (s.channel n).state = .logwait r
      ∧ admitWaiting s = afterPosted n (beatTaken n (postRecord r { s with waitList := rest })))
    ∨ ((s.waitList = [] ∨ ∃ n rest, s.waitList = n :: rest ∧ ∀ r, (s.channel n).state ≠ .logwait r)
      ∧ admitWaiting s = s) := by
  unfold admitWaiting
  split
  · rename_i h; exact .inr ⟨.inl h, rfl⟩
  · rename_i n rest h
    split
    · rename_i r hr; exact .inl ⟨n, rest, r, h, hr, rfl⟩
    · rename_i hr; exact .inr ⟨.inr ⟨n, rest, h, hr⟩, rfl⟩

/-- A frame end without a head does nothing. -/
theorem frameEnd_nil {n : Fin 4} {s : State} (h : (s.channel n).queue = []) (o : FrameOutcome) (c : Context)
    (w : Nat) : frameEnd n o c w s = s := by
  simp [frameEnd, h]

/-- A frame end: the head leaves, its slot's count falls, the watermark is examined, and the record is handed over. -/
theorem frameEnd_cons {n : Fin 4} {s : State} {d : Descriptor} {rest : List Descriptor}
    (h : (s.channel n).queue = d :: rest) (o : FrameOutcome) (c : Context) (w : Nat) :
    frameEnd n o c w s =
      handRecord n (frameRecord n d o c)
        (examineLow n (rest.length + 1) rest.length w (s.channel n).watermark
          ((s.setSlot d.slot { s.slot d.slot with frames := (s.slot d.slot).frames - 1 }).setChannel n
            { s.channel n with queue := rest, abortPending := false, resumePending := false })) := by
  simp [frameEnd, h, State.lowerFrames]

/-! ### Playing -/

/-- The carrier-absent flag of the frame that channel n plays is set, or nothing happens. -/
theorem markAbsent_cases (n : Fin 4) (s : State) :
    (∃ c, (s.channel n).state = .play c
      ∧ markAbsent n s = s.setChannel n { s.channel n with state := .play { c with carrierAbsent := true } })
    ∨ markAbsent n s = s := by
  unfold markAbsent
  split
  · rename_i c d rest hs hq
    split
    · split
      · exact .inl ⟨c, hs, by simp⟩
      · exact .inr rfl
    · exact .inr rfl
  · exact .inr rfl

/-- A phase begins: the channel is in PLAY at the context's place with the phase's whole length; only the carrier-absent
flag is left to say. -/
theorem beginPhase_cases (n : Fin 4) (d : Descriptor) (c : Context) (s : State) :
    ∃ absent, beginPhase n d c s = s.setChannel n { s.channel n with
      state := .play { c with
        remaining := (s.cellSymbol d c.position).lengthAt c.phase, carrierAbsent := absent } } := by
  unfold beginPhase
  rcases markAbsent_cases n (s.setState n (.play { c with
    remaining := (s.cellSymbol d c.position).lengthAt c.phase })) with ⟨c', hc, h⟩ | h
  · refine ⟨true, ?_⟩
    rw [h]
    simp [State.setState, State.modChannel, State.setChannel, State.channel] at hc ⊢
    rw [← hc]
  · exact ⟨c.carrierAbsent, by rw [h]; rfl⟩

/-- A gap begins: the channel is in GAP with the whole gap. -/
theorem beginGap_eq (n : Fin 4) (d : Descriptor) (c : Context) (s : State) :
    beginGap n d c s
      = s.setChannel n { s.channel n with state := .gap { c with phase := 0, remaining := d.gap } } := rfl

/-- The decision at a boundary: the frame ends, the channel is held, or the next step begins. -/
theorem boundary_cases (n : Fin 4) (d : Descriptor) (x : NextStep) (c : Context) (s : State) :
    (∃ o, boundary n d (x, c) s = frameEnd n o c (s.channel n).watermark s
      ∧ (o = .aborted ∧ (s.channel n).abortPending = true ∨ o = .done ∧ x = .finish))
    ∨ ((s.channel n).abortPending = false ∧ x ≠ .finish ∧ (s.channel n).holdPending = true
      ∧ boundary n d (x, c) s = enterHeld n (some { c with phase := 0, remaining := 0 }) s)
    ∨ ((s.channel n).abortPending = false ∧ x = .symbol ∧ (s.channel n).holdPending = false
      ∧ boundary n d (x, c) s = beginSymbol n d c s)
    ∨ ((s.channel n).abortPending = false ∧ x = .gap ∧ (s.channel n).holdPending = false
      ∧ boundary n d (x, c) s = beginGap n d c s) := by
  cases ha : (s.channel n).abortPending
  · cases hh : (s.channel n).holdPending <;> cases x
    · exact .inr (.inr (.inl ⟨rfl, rfl, rfl, by simp [boundary, ha, hh]⟩))
    · exact .inr (.inr (.inr ⟨rfl, rfl, rfl, by simp [boundary, ha, hh]⟩))
    · exact .inl ⟨.done, by simp [boundary, ha], .inr ⟨rfl, rfl⟩⟩
    · exact .inr (.inl ⟨rfl, by simp, rfl, by simp [boundary, ha, hh]⟩)
    · exact .inr (.inl ⟨rfl, by simp, rfl, by simp [boundary, ha, hh]⟩)
    · exact .inl ⟨.done, by simp [boundary, ha], .inr ⟨rfl, rfl⟩⟩
  · exact .inl ⟨.aborted, by simp [boundary, ha], .inl ⟨rfl, rfl⟩⟩

/-- A channel takes a beat event only through the meaning of its own state. -/
theorem takeBeat_cases (n : Fin 4) (s : State) :
    takeBeat n s = startHead n s ∨ takeBeat n s = phaseEnd n s ∨ takeBeat n s = gapEnd n s
      ∨ takeBeat n s = resumeTaken n s ∨ takeBeat n s = s := by
  unfold takeBeat
  split <;> simp

/-- One piece of the work of a beat event: a unit's, a channel's (with the counter of free values moved on where several
channels could go first), or none. -/
theorem settleOne_cases (s : State) :
    (∃ u, settleOne s = takeSample u s)
    ∨ (∃ n, settleOne s = takeBeat n s)
    ∨ (∃ n, settleOne s = takeBeat n { s with freeCount := s.freeCount + 1 })
    ∨ settleOne s = s := by
  unfold settleOne
  split
  · exact .inl ⟨0, rfl⟩
  · split
    · exact .inl ⟨1, rfl⟩
    · split
      · exact .inr (.inr (.inr rfl))
      · exact .inr (.inl ⟨_, rfl⟩)
      · exact .inr (.inr (.inl ⟨_, rfl⟩))

/-- Whatever one piece of a beat event's work keeps, settling keeps. -/
theorem settleUpTo_induct {P : State → Prop} (h : ∀ s, P s → P (settleOne s)) (k : Nat) (s : State) (hs : P s) :
    P (settleUpTo k s) := by
  induction k generalizing s with
  | zero => exact hs
  | succ k ih =>
    unfold settleUpTo
    split
    · exact ih _ (h s hs)
    · exact hs

/-- A channel after a beat event. -/
@[simp] theorem beatEvent_channel (outside : Outside) (s : State) (n : Fin 4) :
    (beatEvent outside s).channel n = ((settle s).channel n).beat := by
  simp [beatEvent, State.channel]

/-- A unit after a beat event. -/
@[simp] theorem beatEvent_captureUnit (outside : Outside) (s : State) (u : Fin 2) :
    (beatEvent outside s).captureUnit u = ((settle s).captureUnit u).sample ((settle s).sensedByte outside) := by
  simp [beatEvent, State.captureUnit]

/-- Everything a step can do: the command at the front, a piece of a beat event, a CLKIN period, or nothing. -/
theorem step_cases {s t : State} (h : step s = .next t) :
    (∃ i rest, s.pending = i :: rest ∧ exec i { s with pending := rest } = .next t)
    ∨ (s.pending = [] ∧ s.inReset = true ∧ t = s)
    ∨ (s.pending = [] ∧ s.inReset = false ∧ workLeft s = true ∧ t = settleOne s)
    ∨ (s.pending = [] ∧ s.inReset = false ∧ workLeft s = false ∧ t = clockPeriod s) := by
  unfold step at h
  split at h
  · rename_i hp
    have ht : runByItself s = t := by simpa using h
    unfold runByItself at ht
    split at ht
    · rename_i hr; exact .inr (.inl ⟨hp, hr, ht.symm⟩)
    · rename_i hr
      split at ht
      · rename_i hw; exact .inr (.inr (.inl ⟨hp, by simpa using hr, hw, ht.symm⟩))
      · rename_i hw; exact .inr (.inr (.inr ⟨hp, by simpa using hr, by simpa using hw, ht.symm⟩))
  · rename_i i rest hp
    exact .inl ⟨i, rest, hp, h⟩

end Sys2Proof.Machine.Laws
end

