-- ==== Sys2Proof/Tests/Slice0.lean ====
section
/-! SUPPORT. Small tests, with results from the manual's worked examples, and for every statement with hypotheses a
witness: a concrete state and operands that meet all of them together, at the ends of their ranges. -/

namespace Sys2Proof.Tests

open Sys2Proof Sys2Proof.Machine Sys2Proof.Stated Sys2Proof.Machine.Laws

/-! ### States to test on -/

/-- s with the six argument registers. -/
def args (a b c d e f : Nat) (s : State) : State :=
  { s with args := #v[BitVec.ofNat 16 a, BitVec.ofNat 16 b, BitVec.ofNat 16 c, BitVec.ofNat 16 d, BitVec.ofNat 16 e,
      BitVec.ofNat 16 f] }

/-- s with the first STAGE registers; the others hold 0. -/
def stage (l : List Nat) (s : State) : State :=
  { s with stage := Vector.ofFn (fun p => BitVec.ofNat 16 (l.getD p 0)) }

/-- s with the port in the words phase of a write frame at address a. -/
def writing (a : BitVec 6) (s : State) : State :=
  { s with selLow := true, port := { s.port with phase := .words, direction := .write, pointer := a } }

/-- s with the port in the words phase of a read frame at address a. -/
def reading (a : BitVec 6) (s : State) : State :=
  { s with selLow := true, port := { s.port with phase := .words, direction := .read, pointer := a } }

/-- The state after an outcome; s0 where there is none. -/
def after (o : Host.Outcome State Fault Refusal) : State :=
  match o with
  | .next s => s
  | _ => .reset

/-- A DEFINED symbol with a count. -/
def sym (lengths : List Nat) (tolerance refs : Nat) (code : BitVec 8) : Machine.Symbol :=
  { state := .defined, lead := .mark, lengths := lengths, tolerance := tolerance, code := code, refs := refs }

/-- The context of a frame at a cell and a phase. -/
def ctx (position phase remaining : Nat) : Context :=
  { repetition := 1, position := position, phase := phase, remaining := remaining, last := false
    carrierAbsent := false, completed := 0 }

/-- A descriptor of slot 0. -/
def desc (repeats gap : Nat) (carrier : Option (Fin 2)) : Descriptor :=
  { slot := 0, repeats := repeats, repeatFrom := none, gap := gap, carrier := carrier, tag := 7 }

/-- A channel in a state, enabled, with a queue. -/
def chan (x : ChannelState) (queue : List Descriptor) : Channel :=
  { Channel.reset with state := x, enabled := true, queue := queue, watermark := 1 }

/-- Symbol 0 is MARK 4, SPACE 2 and symbol 1 MARK 1; slot 0 is SEALED with cells 0, 1; TX0 plays the frame of slot 0, its
first phase at its end. -/
def busy (d : Descriptor) (c : Context) : State :=
  (((State.reset.setSymbol 0 (sym [4, 2] 50 1 7)).setSymbol 1 (sym [1] 0 1 8)).setSlot 0
    { state := .sealed, cells := [0, 1], frames := 1 }).setChannel 0 (chan (.play c) [d])

/-- A completion record of channel n. -/
def record (n : Fin 4) : Completion :=
  { channel := n, tag := 9, slot := 0, outcome := .done, completed := 1, carrierAbsent := false }

/-- The completion log is full and TX1 waits in LOGWAIT. -/
def logFull : State :=
  { State.reset.setChannel 1 (chan (.logwait (record 1)) []) with
    log := List.replicate 16 (record 0), waitList := [1] }

/-- Unit 0 in a state, with a configuration of filter 1, idle threshold 5 and data threshold 2. -/
def unit0 (mode : CaptureMode) (x : CaptureState) (log : List CaptureRecord) : State :=
  State.reset.setUnit 0 { CaptureUnit.reset with
    config := { pin := 0, mode := mode, rest := .low, filter := 1, idle := 5, threshold := 2 }, state := x, log := log }

/-! ### Well-formedness: the one check, and a term that it refuses -/

theorem test_wellFormed_refuses_known_code : (Instr.badCommand 0x01).wellFormed = false := by decide
theorem test_wellFormed_accepts_unknown_code : (Instr.badCommand 0x00).wellFormed = true := by decide

/-! ### Codes and addresses, from the tables of section 12.6 and R185 -/

theorem test_code_engineReset : Command.ofCode 0x3F = some .engineReset := by decide
theorem test_code_unknown : Command.ofCode 0x04 = none := by decide
theorem test_address_capPend : Reg.ofAddr 0x1D = .evtPend 1 := by decide
theorem test_address_last : Reg.ofAddr 0x3F = .pinRoute 7 := by decide

/-! ### Commands, from the manual's worked examples -/

/-- Section 1.5, step 2: DEFINE_SYMBOL of a header. -/
theorem test_define_header :
    ((after (exec .defineSymbol (stage [32, 16] (args 0 0 2 20 240 0 (writing 0 .reset))))).symbol 0).lengths
      = [32, 16] := by decide

/-- Section 1.5, step 3: a zero length among those examined is BAD_ARG. -/
theorem test_define_zero_length :
    (after (exec .defineSymbol (stage [2, 0] (args 1 0 2 50 0 0 (writing 0 .reset))))).result = .badArg := by decide

/-- Section 2.6, step 3: APPEND_SEQ naming an EMPTY symbol is refused whole. -/
theorem test_append_not_defined :
    (after (exec .appendSeq (stage [1] (args 0 1 0 0 0 0 (writing 0
      (State.reset.setSlot 0 { state := .opened, cells := [], frames := 0 })))))).result = .notDefined := by decide

/-- Section 1.4, the row of nominal 6 at tolerance 40: 4 to 8 match, 3 and 9 do not. -/
theorem test_matching_range :
    (withinTolerance 3 6 40, withinTolerance 4 6 40, withinTolerance 8 6 40, withinTolerance 9 6 40)
      = (false, true, true, false) := by decide

/-- Section 7.7, step 1: a source twice in a route list is DUPLICATE. -/
theorem test_route_duplicate :
    (after (exec .pinRoute (args 2 2 1 1 0 0 (writing 0 .reset)))).result = .duplicate := by decide

/-- Section 10.7, event 3: the last free entry takes an OVERRUN record. -/
theorem test_overrun :
    ((offerRecord 0 (.phase .mark 3)
      (unit0 .raw .off (List.replicate 47 (.phase .mark 2)))).captureUnit 0).log.getLast? = some (.overrun 1) := by
  decide

/-- The decode set of section 9.8. -/
def remote : State :=
  ((((State.reset.setSymbol 20 (sym [64, 32] 25 1 240)).setSymbol 21 (sym [64, 32, 4, 96] 25 1 241)).setSymbol 22
    (sym [4, 4] 25 1 0)).setSymbol 23 (sym [4, 12] 25 1 1)).setSymbol 24 (sym [4, 80] 25 1 250)

/-- Section 9.8, frame 17, phases 3 and 4: the held header is reported, and the replay completes a data one. -/
theorem test_fallback_and_replay :
    (feed remote [20, 21, 22, 23, 24]
      [⟨⟨.mark, 63⟩, false⟩, ⟨⟨.space, 33⟩, false⟩, ⟨⟨.mark, 4⟩, false⟩, ⟨⟨.space, 12⟩, false⟩]
      ⟨[], none, []⟩).out = [.symbol 20 240, .symbol 23 1] := by decide

/-- Section 9.8, frame 18: the open space completes the repeat code. -/
theorem test_open_space :
    (feed remote [20, 21, 22, 23, 24]
      [⟨⟨.mark, 62⟩, false⟩, ⟨⟨.space, 31⟩, false⟩, ⟨⟨.mark, 4⟩, false⟩, ⟨⟨.space, 75⟩, true⟩]
      ⟨[], none, []⟩).out = [.symbol 21 241] := by decide

/-- Section 4.7, t = 4: the mark of cell 0 ends and its space of 2 beats begins. -/
theorem test_phase_end :
    ((after (exec (.phaseEnd 0) (busy (desc 3 3 none) (ctx 0 0 0)))).channel 0).state = .play (ctx 0 1 2) := by decide

/-- TX0 is IDLE with the frame of slot 0 queued, and the last beat event is still to be taken. -/
def starting : State := (busy (desc 1 0 none) (ctx 0 0 0)).setChannel 0 { chan .idle [desc 1 0 none] with beatDue := true }

/-- R76: a HOLD taken before the start leaves the channel HELD, and that beat event starts and resumes nothing. -/
theorem test_hold_before_start :
    ((after (exec .hold (args 0 0 0 0 0 0 (writing 0 starting)))).channel 0).beatDue = false := by decide

/-- Section 8.7, a stuck line: a fault outside holds P3 high against the device's low, and the pin is sensed high. -/
theorem test_opposed_pin :
    (State.reset.setPin 3 { Pin.reset with mode := .drive }).sensed { level := 8, opposes := 8 } 3 = .high := by decide

/-- Section 6.7, at 623: the generator reaches its high time and its output falls. -/
theorem test_high_time_end :
    (Carrier.tick { Carrier.reset with
      enabled := true, period := 842, high := 281, position := 280, outputHigh := true }).outputHigh = false := by decide

/-- The pointer wraps from 0x3F to 0x00 (R176). -/
theorem test_pointer_wraps :
    (after (exec (.registerWrite 0) (writing 0x3F .reset))).port.pointer = 0 := by decide

/-! ### Witnesses: what each statement assumes, met by a concrete state -/

theorem witness_StepRunsTheFrontOfTheQueue :
    ({ State.reset with pending := [.selRise] } : State).pending = .selRise :: [] := rfl

theorem witness_EmptyQueueCountsAClockPeriod :
    (State.reset.pending = [] ∧ State.reset.inReset = false ∧ workLeft State.reset = false
      ∧ State.reset.count + 1 = 2 ^ State.reset.exponent)
    ∧ (({ State.reset with exponent := 12, count := 4094 } : State).count + 1 < 2 ^ 12
      ∧ workLeft { State.reset with exponent := 12, count := 4094 } = false)
    ∧ ({ State.reset with rstLow := true } : State).inReset = true := by decide

/-- The same statement where something of a beat event is left to do: TX0's phase has ended. -/
theorem witness_EmptyQueueCountsAClockPeriod_work :
    let s := busy (desc 1 4 none) (ctx 1 0 0)
    s.pending = [] ∧ s.inReset = false ∧ workLeft s = true ∧ (∃ t, step { s with pending := [] } = .next t)
      ∧ DueRow s (.phaseEnd 0) :=
  ⟨rfl, by decide, by decide, ⟨_, rfl⟩, ctx 1 0 0, by decide, rfl, by decide⟩

theorem witness_RefusedCommandChangesOnlyResult :
    (writing 0 .reset).AtWrite .cmd ∧ Command.run .clearSymbol (writing 0 .reset) = .error .already := ⟨by decide, rfl⟩

theorem witness_CmdWordRunsTheCommandItNames :
    (writing 0 .reset).AtWrite .cmd ∧ BitVec.ofNat 8 (0xFF3F#16).toNat = Command.engineReset.code
      ∧ ∀ c : Command, BitVec.ofNat 8 (0xFF00#16).toNat ≠ c.code :=
  ⟨by decide, by decide, fun c => by cases c <;> decide⟩

theorem witness_RegisterWriteFollowsThePointer :
    (writing 0x07 .reset).AtWrite (.arg 5) ∧ (writing 0x13 .reset).AtWrite (.stage 11)
      ∧ (writing 0x01 .reset).AtWrite .result ∧ (writing 0x16 .reset).AtWrite (.clOut 2)
      ∧ (writing 0x23 .reset).AtWrite (.txCtrl 3) ∧ (writing 0x2B .reset).AtWrite (.cgPeriod 1)
      ∧ (writing 0x2C .reset).AtWrite (.cgHigh 1) ∧ (writing 0x2D .reset).AtWrite (.cgCtrl 1)
      ∧ (writing 0x37 .reset).AtWrite (.pinCfg 7) ∧ (writing 0x3F .reset).AtWrite (.pinRoute 7)
      ∧ (writing 0x1D .reset).AtWrite (.evtPend 1) ∧ (writing 0x1F .reset).AtWrite (.evtEn 1) := by decide

theorem witness_CodesAndAddressesAgree : Command.ofCode 0x3F = some .engineReset := by decide

theorem witness_ReadBackLosesNoField :
    RecordInRange (.phase .mark 65535) ∧ RecordInRange (.frameEnd 255 255 true false) ∧ RecordInRange (.overrun 255)
      ∧ ({ record 3 with completed := 255 } : Completion).completed ≤ 255 := by
  simp [RecordInRange]

theorem witness_SelBeginsAndEndsAFrame :
    State.reset.selLow = false ∧ State.reset.inReset = false
      ∧ ({ State.reset with powerHold := true } : State).inReset = true
      ∧ ((reading 0x3F .reset).selLow = true ∧ (reading 0x3F .reset).inReset = false
        ∧ (reading 0x3F .reset).port.phase = .words ∧ (reading 0x3F .reset).port.direction = .read
        ∧ (reading 0x3F .reset).port.bitCount = 0)
      ∧ (writing 0 .reset).port.direction = .write
      ∧ ({ State.reset with selLow := true } : State).port.phase = .noFrame := by decide

theorem witness_HeaderAndReadWords :
    ({ State.reset with selLow := true, port := { Port.reset with phase := .header } } : State).port.phase = .header
      ∧ (reading 0x3F .reset).AtRead := by decide

theorem witness_RowsOutOfPlaceDoNothing :
    ¬ State.reset.AtWrite .cmd ∧ ¬ (writing 1 .reset).AtWrite .cmd ∧ State.reset.port.phase ≠ .words
      ∧ ¬ (writing 0x21 .reset).AtWrite (.txCtrl 0) ∧ State.reset.port.phase ≠ .header
      ∧ (State.reset.carrier 0).enabled = false ∧ (writing 0 .reset).selLow = true ∧ State.reset.inReset = false
      ∧ ({ State.reset with rstLow := true } : State).inReset = true ∧ (.engineReset : Instr) ≠ .selRise := by decide

/-- The same statement for events whose condition does not hold: one beat is left of TX0's phase, and unit 0's run is below
F + 1. -/
theorem witness_RowsOutOfPlaceDoNothing_events :
    ¬ DueRow (busy (desc 1 4 none) (ctx 1 0 1)) (.phaseEnd 0)
      ∧ ¬ DueRow (unit0 .raw (.armed (some ⟨.space, 1⟩)) []) (.acceptedEdge 0)
      ∧ ¬ DueRow (unit0 .raw (.inFrame ⟨.space, 0⟩ 3 1) []) (.idleTimeout 0) := by
  refine ⟨?_, ?_, ?_⟩
  · rintro ⟨c, h, h0, _⟩
    have : (busy (desc 1 4 none) (ctx 1 0 1)).channel 0 = chan (.play (ctx 1 0 1)) [desc 1 4 none] := by decide
    rw [this] at h
    cases h
    exact absurd h0 (by decide)
  · rintro ⟨f, h, h0⟩
    have : filterOf ((unit0 .raw (.armed (some ⟨.space, 1⟩)) []).captureUnit 0).state = some ⟨.space, 1⟩ := by decide
    rw [this] at h
    cases h
    exact absurd h0 (by decide)
  · rintro ⟨f, age, phases, h, _, _, h0⟩
    have : ((unit0 .raw (.inFrame ⟨.space, 0⟩ 3 1) []).captureUnit 0).state = .inFrame ⟨.space, 0⟩ 3 1 := by decide
    rw [this] at h
    cases h
    exact absurd h0 (by decide)

theorem witness_FullResetSetsEveryItem : ({ State.reset with rstLow := true } : State).inReset = true := by decide

theorem witness_EngineResetStopsAndKeeps : (writing 0 .reset).AtWrite .cmd := by decide

theorem witness_SetTimebaseNeedsAnIdleDevice : (args 12 0 0 0 0 0 (writing 0 .reset)).AtWrite .cmd := by decide

/-- The last index in range and the first beyond it, with a command at CMD. -/
abbrev Edges (n : Nat) : Prop :=
  (args (n - 1) 0 0 0 0 0 (writing 0 .reset)).AtWrite .cmd
    ∧ ((args (n - 1) 0 0 0 0 0 (writing 0 .reset)).arg 0).toNat = n - 1
    ∧ n ≤ ((args n 0 0 0 0 0 (writing 0 .reset)).arg 0).toNat

theorem witness_DefineAndClearWriteTheRecord :
    64 ≤ ((args 64 0 0 0 0 0 (writing 0 .reset)).arg 0).toNat
      ∧ ((args 63 1 8 50 255 0 (writing 0 .reset)).arg 0).toNat = (63 : Fin 64)
      ∧ (args 63 1 8 50 255 0 (writing 0 .reset)).AtWrite .cmd := by decide

theorem witness_SlotCommandsMoveASlot : Edges 32 := by decide

theorem witness_AppendSeqAddsCellsAndCounts : Edges 32 := by decide

theorem witness_PostFrameQueuesADescriptor :
    Edges 4 ∧ ((args 3 31 255 65535 0 0 (writing 0 .reset)).arg 0).toNat = (3 : Fin 4)
      ∧ ((args 3 31 255 65535 0 0 (writing 0 .reset)).arg 1).toNat = (31 : Fin 32)
      ∧ 32 ≤ ((args 3 32 0 0 0 0 (writing 0 .reset)).arg 1).toNat := by decide

theorem witness_FlushLogsEveryDescriptorItTakes : Edges 4 := by decide

theorem witness_HoldAndResumeActByState : Edges 4 := by decide

theorem witness_AbortEndsTheFrame : Edges 4 := by decide

theorem witness_MatchingLengthsFormOneRange : 50 ≤ 50 ∧ (sym [4, 2] 50 1 7).tolerance ≤ 50 := by decide

theorem witness_StartHeadBeginsTheFrame :
    let s := (busy (desc 1 0 none) (ctx 0 0 0)).setChannel 0
      { chan .idle [desc 1 0 none] with beatDue := true }
    s.inReset = false ∧ (s.channel 0).state = .idle ∧ (s.channel 0).beatDue = true ∧ (s.channel 0).enabled = true
      ∧ (s.channel 0).queue = desc 1 0 none :: []
      ∧ (State.reset.channel 3).state = .idle ∧ (State.reset.channel 3).enabled = false := by decide

theorem witness_PhaseEndBeginsTheNextPhase :
    let s := busy (desc 1 0 none) (ctx 0 0 0)
    s.inReset = false ∧ (s.channel 0).state = .play (ctx 0 0 0) ∧ (s.channel 0).queue = desc 1 0 none :: []
      ∧ (ctx 0 0 0).remaining = 0 ∧ 0 + 1 < (s.cellSymbol (desc 1 0 none) 0).lengths.length := by decide

theorem witness_BoundaryDecidesTheNextStep :
    let s := busy (desc 1 4 none) (ctx 1 0 0)
    let t := s.setChannel 0 (chan (.gap (ctx 2 0 0)) [desc 1 4 none])
    (s.inReset = false ∧ (s.channel 0).queue = desc 1 4 none :: [] ∧ (s.channel 0).state = .play (ctx 1 0 0)
      ∧ (s.cellSymbol (desc 1 4 none) 1).lengths.length ≤ 0 + 1)
    ∧ (t.channel 0).queue = desc 1 4 none :: [] ∧ (t.channel 0).state = .gap (ctx 2 0 0) := by decide

theorem witness_ResumeTakenLeavesHeld :
    let s (x : ChannelState) (q : List Descriptor) : State := (busy (desc 1 4 none) (ctx 1 0 0)).setChannel 0
      { chan x q with beatDue := true, resumePending := true }
    (((s (.held (some (ctx 1 0 0))) [desc 1 4 none]).channel 0).state = .held (some (ctx 1 0 0))
      ∧ ((s (.held (some (ctx 1 0 0))) [desc 1 4 none]).channel 0).queue = desc 1 4 none :: [])
    ∧ (((s (.held none) [desc 1 4 none]).channel 0).state = .held none
      ∧ ((s (.held none) [desc 1 4 none]).channel 0).enabled = true)
    ∧ ((s (.held none) []).channel 0).queue = [] ∧ ((s (.held none) []).channel 0).resumePending = true
    ∧ (s (.held none) []).inReset = false := by decide

theorem witness_FrameEndHandsOverOneRecord :
    ((busy (desc 1 0 none) (ctx 1 0 0)).channel 0).queue = desc 1 0 none :: [] := by decide

theorem witness_ReleaseMakesTheRepetitionLast :
    Edges 4 ∧ ((busy (desc 1 0 none) (ctx 1 0 0)).channel 0).state.context = some (ctx 1 0 0)
      ∧ (State.reset.channel 3).state.context = none := by decide

theorem witness_TxCtrlWriteStoresAndStops :
    (writing 0x23 .reset).AtWrite (.txCtrl 3) ∧ (7 : BitVec 3) = BitVec.ofNat 3 ((0x0071 : Word).toNat / 16) := by
  decide

theorem logFull_ok : CompletionLogOk logFull := by
  refine ⟨by decide, by decide, ?_, ?_, by decide⟩
  · intro n
    fin_cases n <;> simp [logFull, State.channel, chan, State.setChannel, State.reset, Channel.reset]
  · intro n r
    fin_cases n <;>
      simp [logFull, State.channel, chan, State.setChannel, State.reset, Channel.reset, record]
    rintro rfl
    rfl

theorem witness_ClPopAdmitsTheHeadOfTheWaitList :
    let s := writing 0 logFull
    s.AtWrite .cmd ∧ CompletionLogOk s ∧ s.log = record 0 :: List.replicate 15 (record 0) ∧ s.waitList = 1 :: []
      ∧ (s.channel 1).state = .logwait (record 1) :=
  ⟨by decide, logFull_ok, rfl, rfl, by decide⟩

theorem witness_RecordAdmissionFillsAFreeEntry :
    let s := { logFull with log := List.replicate 15 (record 0) }
    s.inReset = false ∧ s.log.length < 16 ∧ s.waitList = 1 :: [] ∧ (s.channel 1).state = .logwait (record 1)
      ∧ 16 ≤ logFull.log.length := by decide

theorem witness_BeatEventCountsDownAndSamples :
    (State.reset.inReset = false ∧ workLeft State.reset = false)
      ∧ (busy (desc 1 4 none) (ctx 0 0 1)).inReset = false
      ∧ workLeft (busy (desc 1 4 none) (ctx 0 0 1)) = false := by decide

theorem witness_CarrierRegisterWrites :
    (writing 0x28 .reset).AtWrite (.cgPeriod 0) ∧ (writing 0x29 .reset).AtWrite (.cgHigh 0)
      ∧ (writing 0x2D .reset).AtWrite (.cgCtrl 1) := by decide

/-- A generator at the start of the shortest period. -/
def carrier : Carrier := { Carrier.reset with enabled := true, outputHigh := true }

theorem witness_CarrierPartsEnd :
    let s := State.reset.setCarrier 1 carrier
    let t := State.reset.setCarrier 0 { carrier with outputHigh := false, position := 1 }
    (s.inReset = false ∧ (s.carrier 1).enabled = true ∧ (s.carrier 1).outputHigh = true)
      ∧ (t.carrier 0).enabled = true ∧ (t.carrier 0).outputHigh = false := by decide

theorem witness_CarrierWaveform :
    let c := { carrier with ready := true }
    c.Ok ∧ c.enabled = true ∧ c.position = 0 ∧ c.outputHigh = true ∧ Carrier.reset.enabled = false := by
  refine ⟨?_, by decide⟩
  simp [Carrier.Ok, carrier, Carrier.reset]

theorem witness_PinRouteAndConfiguration :
    (args 7 3 0 1 5 0 (writing 0 .reset)).AtWrite .cmd
      ∧ ((args 7 3 0 1 5 0 (writing 0 .reset)).arg 0).toNat = (7 : Fin 8)
      ∧ 8 ≤ ((args 8 3 0 1 5 0 (writing 0 .reset)).arg 0).toNat
      ∧ (writing 0x30 .reset).AtWrite (.pinCfg 0) := by decide

theorem witness_FirstAssertingSourceDrivesThePin :
    let s := (State.reset.setPin 7 { Pin.reset with route := [.cg 0, .cg 1] }).setCarrier 1 carrier
    s.inReset = false ∧ (s.pin 7).route = [.cg 0] ++ .cg 1 :: [] ∧ s.asserts (.cg 0) = false
      ∧ s.asserts (.cg 1) = true ∧ (∀ y ∈ (s.pin 0).route, s.asserts y = false)
      ∧ ({ s with rstLow := true } : State).inReset = true ∧ s.drive 7 = some .high ∧ s.drive 0 = none := by decide

theorem witness_CapSetupConfiguresAnOffUnit :
    Edges 2 ∧ ((args 1 7 0 15 65535 48 (writing 0 .reset)).arg 1).toNat % 8 = (7 : Fin 8) := by decide

theorem witness_CapStartAndStop : Edges 2 := by decide

theorem witness_CapDecodeSetReplacesTheSet : Edges 2 := by decide

theorem witness_AcceptedEdgeClosesThePhase :
    let s (x : CaptureState) : State := unit0 .raw x []
    ((s (.armed (some ⟨.space, 2⟩))).captureUnit 0).state = .armed (some ⟨.space, 2⟩)
      ∧ ((s (.stuck ⟨.mark, 2⟩)).captureUnit 0).state = .stuck ⟨.mark, 2⟩
      ∧ ((s (.inFrame ⟨.mark, 2⟩ 9 0)).captureUnit 0).state = .inFrame ⟨.mark, 2⟩ 9 0
      ∧ ((s .off).captureUnit 0).config.filter + 1 ≤ (⟨.mark, 2⟩ : Filter).run ∧ (s .off).inReset = false := by decide

theorem witness_FrameEndsByIdleOrStuck :
    let s := unit0 .decode (.inFrame ⟨.space, 0⟩ 4 3) []
    let t := unit0 .raw (.inFrame ⟨.mark, 0⟩ 65534 255) []
    ((s.captureUnit 0).state = .inFrame ⟨.space, 0⟩ 4 3 ∧ (s.captureUnit 0).config.idle ≤ 4 + 1)
      ∧ (t.captureUnit 0).state = .inFrame ⟨.mark, 0⟩ 65534 255 ∧ 65535 ≤ 65534 + 1 ∧ t.inReset = false := by decide

theorem witness_DecoderAccountsForEveryPhase :
    WorkOk remote ⟨[⟨⟨.mark, 63⟩, false⟩, ⟨⟨.space, 33⟩, false⟩], some ⟨20, 2⟩, []⟩ := by
  refine ⟨by decide, ?_⟩
  intro h e
  cases e
  decide

/-- The same statement with an open space, which stands last. -/
theorem witness_DecoderAccountsForEveryPhase_open :
    OpenOnlyLast [⟨⟨.mark, 4⟩, false⟩, ⟨⟨.space, 75⟩, true⟩] := by
  intro before x after h o
  match before, h with
  | [], h => cases h; cases o
  | [_], h => cases h; rfl
  | _ :: _ :: [], h => cases h
  | _ :: _ :: _ :: _, h => cases h

theorem witness_FlushLeavesTheDecoderEmpty :
    WorkOk remote ⟨[⟨⟨.mark, 63⟩, false⟩, ⟨⟨.space, 33⟩, false⟩, ⟨⟨.mark, 4⟩, false⟩], some ⟨20, 2⟩, []⟩ := by
  refine ⟨by decide, ?_⟩
  intro h e
  cases e
  decide

/-- The flush's first two cases: the whole list is a full match, or no member is one and a member is held. -/
theorem witness_FlushLeavesTheDecoderEmpty_cases :
    (remote.symbol 20).fullMatch [⟨.mark, 63⟩, ⟨.space, 33⟩] = true
      ∧ ∀ m ∈ ([20, 21] : List (Fin 64)),
        (remote.symbol m).fullMatch [⟨.mark, 63⟩, ⟨.space, 33⟩, ⟨.mark, 4⟩] = false := by decide

theorem witness_DecoderTakesAPhaseByTheTable :
    (remote.symbol 20).fullMatch [⟨.mark, 63⟩, ⟨.space, 33⟩] = true
      ∧ (remote.symbol 21).beginsWith [⟨.mark, 63⟩, ⟨.space, 33⟩] = true
      ∧ (∀ m ∈ ([22, 23] : List (Fin 64)), (remote.symbol m).beginsWith [⟨.mark, 63⟩] = false)
      ∧ (remote.symbol 23).fullMatch [⟨.mark, 3⟩] = false ∧ (remote.symbol 23).beginsWith [⟨.mark, 3⟩] = true := by
  decide

theorem witness_CaptureLogTakesAndGives :
    let log (n : Nat) (r : CaptureRecord) : State := unit0 .raw .off (List.replicate n (.phase .mark 2) ++ [r])
    ((log 45 (.phase .space 1)).captureUnit 0).log.length = 46
      ∧ ((log 46 (.phase .space 1)).captureUnit 0).log.length = 47
      ∧ ((log 46 (.overrun 255)).captureUnit 0).log.length = 47
      ∧ ((log 47 (.overrun 255)).captureUnit 0).log.length = 48 := by decide

theorem witness_FlagsAreSeparateAndDriveIrq : EventsOk State.reset := by
  intro r
  fin_cases r <;> decide

theorem witness_EventRegisterWrites :
    (writing 0x1C .reset).AtWrite (.evtPend 0) ∧ (writing 0x1F .reset).AtWrite (.evtEn 1) := by decide

theorem witness_ANamedSymbolDoesNotChange :
    0 < ((busy (desc 1 0 none) (ctx 0 0 0)).symbol 1).refs
      ∧ ∃ t, step (busy (desc 1 0 none) (ctx 0 0 0)) = .next t := ⟨by decide, _, rfl⟩

/-- TX0 plays the frame of slot 0. -/
def playing0 : State := busy (desc 1 4 none) (ctx 1 0 0)

theorem reset_symbol (i : Fin 64) : State.reset.symbol i = Symbol.reset := by
  simp [State.symbol, State.reset]

theorem reset_slot (i : Fin 32) : State.reset.slot i = Slot.reset := by
  simp [State.slot, State.reset]

theorem reset_channel (n : Fin 4) : State.reset.channel n = Channel.reset := by
  simp [State.channel, State.reset]

theorem playing0_tables : TablesOk playing0 := by
  refine ⟨fun i => ?_, fun i => ?_, by decide, by decide, by decide⟩
  · simp only [playing0, busy, setChannel_symbol, setSlot_symbol, setSymbol_symbol, reset_symbol]
    split
    · simp [Symbol.Ok, sym]
    · split <;> simp [Symbol.Ok, sym, Symbol.reset]
  · simp only [playing0, busy, setChannel_slot, setSlot_slot, setSymbol_slot, reset_slot]
    split <;> simp [Slot.Ok, Slot.reset]

theorem playing0_queues : QueuesOk playing0 := by
  refine ⟨by decide, by decide, by decide, fun n => ?_⟩
  simp only [playing0, busy, setChannel_channel, setSlot_channel, setSymbol_channel, reset_channel]
  split <;> simp [chan, desc, Channel.reset]

theorem playing0_play : PlayOk playing0 := by
  refine ⟨playing0_tables, playing0_queues, fun n => ?_⟩
  by_cases h : n = 0
  · subst h
    show 1 < 2 ∧ _
    decide
  · have e : playing0.channel n = Channel.reset := by
      simp [playing0, busy, reset_channel, h]
    rw [e]
    simp [PlaceOk, Channel.reset]

theorem playing0_channels : ChannelsOk playing0 := by
  unfold ChannelsOk Channel.Ok
  decide

theorem playing0_carriers : CarriersOk playing0 := by
  unfold CarriersOk Carrier.Ok
  decide

theorem playing0_log : CompletionLogOk playing0 := by
  refine ⟨by decide, by decide, fun n => ?_, fun n r => ?_, by decide⟩ <;>
    (simp only [playing0, busy, setChannel_channel, setSlot_channel, setSymbol_channel, reset_channel]
     split <;> simp [chan, Channel.reset, State.reset])

theorem playing0_captureLogs : CaptureLogsOk playing0 := by
  unfold CaptureLogsOk CaptureLogOk
  intro u
  have : (playing0.captureUnit u).log = [] := by revert u; decide
  simp [this, separated, youngestIsOverrun]

theorem playing0_small : RoutesOk playing0 ∧ TimebaseOk playing0 ∧ EventsOk playing0 := by
  unfold RoutesOk TimebaseOk EventsOk
  decide

theorem witness_BeatWorkComesToAnEnd : PlayOk playing0 := playing0_play

theorem witness_ReadCommandsFillStage :
    TablesOk (args 31 31 0 0 0 0 (writing 0 playing0)) ∧ (args 31 31 0 0 0 0 (writing 0 playing0)).AtWrite .cmd
      ∧ ((args 31 31 0 0 0 0 (writing 0 playing0)).arg 0).toNat = (31 : Fin 32) :=
  ⟨playing0_tables, by decide, by decide⟩

theorem witness_StatusRegistersShowTheirFields :
    QueuesOk playing0 ∧ ChannelsOk playing0 ∧ CompletionLogOk playing0 ∧ CaptureLogsOk playing0 ∧ TimebaseOk playing0
      ∧ RoutesOk playing0 :=
  ⟨playing0_queues, playing0_channels, playing0_log, playing0_captureLogs, playing0_small.2.1, playing0_small.1⟩

theorem playing0_contexts : ContextsOk playing0 := by
  intro n
  by_cases h : n = 0
  · subst h
    show Context.Ok (ctx 1 0 0) (desc 1 4 none) ∧ Context.Uncounted (ctx 1 0 0) (desc 1 4 none)
    simp [Context.Ok, Context.Uncounted, ctx, desc]
  · have e : playing0.channel n = Channel.reset := by
      simp [playing0, busy, reset_channel, h]
    rw [e]
    simp [ContextOk, Channel.reset]

theorem witness_EveryStepKeepsTablesQueuesAndPlaces :
    PlayOk playing0 ∧ ContextsOk playing0 ∧ ∃ t, step playing0 = .next t :=
  ⟨playing0_play, playing0_contexts, _, rfl⟩

theorem witness_EveryStepKeepsChannelFlags :
    ChannelsOk starting ∧ MarksOk starting ∧ (starting.channel 0).beatDue = true ∧ ∃ t, step starting = .next t := by
  refine ⟨?_, ?_, by decide, _, rfl⟩
  · unfold ChannelsOk Channel.Ok
    decide
  · unfold MarksOk
    decide

theorem witness_EveryStepKeepsTheCompletionLog :
    CompletionLogOk logFull ∧ RecordsOk logFull ∧ ∃ t, step logFull = .next t := by
  refine ⟨logFull_ok, ⟨?_, ?_, by decide⟩, _, rfl⟩ <;>
    (intro n c
     fin_cases n <;>
       simp [logFull, State.channel, chan, State.setChannel, State.reset, Channel.reset, record, ChannelState.context])
  rintro rfl
  decide

theorem witness_EveryStepKeepsTheSmallBlocks :
    CarriersOk playing0 ∧ RoutesOk playing0 ∧ TimebaseOk playing0 ∧ EventsOk playing0
      ∧ PortOk (writing 0 .reset) ∧ (∃ t, step playing0 = .next t) ∧ ∃ t, step (writing 0 .reset) = .next t :=
  ⟨playing0_carriers, playing0_small.1, playing0_small.2.1, playing0_small.2.2, ⟨fun _ => by decide, rfl⟩,
    ⟨_, rfl⟩, _, rfl⟩

theorem witness_EveryStepKeepsTheCaptureLogs : CaptureLogsOk playing0 ∧ ∃ t, step playing0 = .next t :=
  ⟨playing0_captureLogs, _, rfl⟩

/-- Unit 0 in a frame in DECODE mode, with the header of section 9.8 held. -/
def decoding : State := remote.setUnit 0 { CaptureUnit.reset with
    config := { CaptureUnit.reset.config with mode := .decode }, state := .inFrame ⟨.space, 0⟩ 1 2
    decodeSet := [20, 21], pendingList := [⟨.mark, 63⟩, ⟨.space, 33⟩], held := some ⟨20, 2⟩ }

theorem witness_EveryStepKeepsTheDecoders :
    DecodersOk decoding ∧ UnitsOk decoding ∧ ∃ t, step decoding = .next t := by
  refine ⟨⟨by decide, fun u => ?_⟩, fun u => ?_, _, rfl⟩ <;> fin_cases u
  · refine ⟨by decide, by decide, ?_⟩
    intro h e
    cases e
    decide
  · refine ⟨by decide, by decide, ?_⟩
    intro h e
    cases e
  · simp [decoding, CaptureUnit.Ok, CaptureConfig.Ok, CaptureState.Ok, CaptureUnit.reset]
  · simp [decoding, remote, CaptureUnit.Ok, CaptureConfig.Ok, CaptureState.Ok, CaptureUnit.reset, State.captureUnit,
      State.setUnit, State.setSymbol, State.reset]

theorem witness_NothingActsInAFullReset :
    let s := resetValues { State.reset with rstLow := true }
    ResetHeld s ∧ s.inReset = true ∧ ∃ t, step s = .next t := ⟨fun _ => rfl, rfl, _, rfl⟩

end Sys2Proof.Tests
end

section
/-! SUPPORT. Facts about the three tables and their counts, and what keeps them. -/

namespace Sys2Proof.Proofs

open Sys2Proof Sys2Proof.Machine Sys2Proof.Machine.Laws

/-! ### Counts as sums over indices -/

/-- A sum over the entries of a table is a sum over its indices. -/
theorem sum_map_toList {α : Type} {n : Nat} (f : α → Nat) (v : Vector α n) :
    (v.toList.map f).sum = ∑ i : Fin n, f v[i] := by
  have hv : v.toList = List.ofFn (fun i : Fin n => v[i]) := by
    refine List.ext_getElem (by simp) (fun i h1 h2 => ?_)
    simp
  rw [hv, List.map_ofFn, List.sum_ofFn]
  rfl

/-- Replacing one term of a sum: what leaves and what comes balance. -/
theorem sum_replace {ι α : Type} [Fintype ι] [DecidableEq ι] (g : ι → α) (f : α → Nat) (i : ι) (x : α) :
    ∑ k, f (if k = i then x else g k) + f (g i) = ∑ k, f (g k) + f x := by
  have hrest : ∑ k ∈ Finset.univ.erase i, f (if k = i then x else g k) = ∑ k ∈ Finset.univ.erase i, f (g k) :=
    Finset.sum_congr rfl (fun k hk => by rw [if_neg (Finset.ne_of_mem_erase hk)])
  rw [← Finset.add_sum_erase _ (fun k => f (g k)) (Finset.mem_univ i),
    ← Finset.add_sum_erase _ (fun k => f (if k = i then x else g k)) (Finset.mem_univ i), hrest, if_pos rfl]
  omega

theorem cellsNaming_eq (s : State) (j : Fin 64) : s.cellsNaming j = ∑ i, (s.slot i).cells.count j :=
  sum_map_toList (fun x : Slot => x.cells.count j) s.slots

theorem positionsNaming_eq (s : State) (j : Fin 64) :
    s.positionsNaming j = ∑ u, (s.captureUnit u).decodeSet.count j :=
  sum_map_toList (fun c : CaptureUnit => c.decodeSet.count j) s.units

theorem descriptorsNaming_eq (s : State) (i : Fin 32) :
    s.descriptorsNaming i = ∑ n, (s.channel n).queue.countP (fun d => d.slot = i) :=
  sum_map_toList (fun ch : Channel => ch.queue.countP (fun d : Descriptor => d.slot = i)) s.channels

/-- The cells of one slot are among those counted. -/
theorem count_le_cellsNaming (s : State) (i : Fin 32) (j : Fin 64) :
    (s.slot i).cells.count j ≤ s.cellsNaming j := by
  rw [cellsNaming_eq]
  exact Finset.single_le_sum (f := fun i => (s.slot i).cells.count j) (fun _ _ => Nat.zero_le _) (Finset.mem_univ i)

/-- The positions of one decode set are among those counted. -/
theorem count_le_positionsNaming (s : State) (u : Fin 2) (j : Fin 64) :
    (s.captureUnit u).decodeSet.count j ≤ s.positionsNaming j := by
  rw [positionsNaming_eq]
  exact Finset.single_le_sum (f := fun u => (s.captureUnit u).decodeSet.count j) (fun _ _ => Nat.zero_le _)
    (Finset.mem_univ u)

/-- The descriptors of one queue are among those counted. -/
theorem countP_le_descriptorsNaming (s : State) (n : Fin 4) (i : Fin 32) :
    (s.channel n).queue.countP (fun d => d.slot = i) ≤ s.descriptorsNaming i := by
  rw [descriptorsNaming_eq]
  exact Finset.single_le_sum (f := fun n => (s.channel n).queue.countP (fun d => d.slot = i))
    (fun _ _ => Nat.zero_le _) (Finset.mem_univ n)

/-- Replacing a slot moves the count of a symbol by the cells that go and come. -/
theorem cellsNaming_setSlot (i : Fin 32) (x : Slot) (s : State) (j : Fin 64) :
    (s.setSlot i x).cellsNaming j + (s.slot i).cells.count j = s.cellsNaming j + x.cells.count j := by
  simp only [cellsNaming_eq, setSlot_slot]
  exact sum_replace s.slot (fun y => y.cells.count j) i x

/-- Replacing a unit moves the count of a symbol by the positions that go and come. -/
theorem positionsNaming_setUnit (u : Fin 2) (x : CaptureUnit) (s : State) (j : Fin 64) :
    (s.setUnit u x).positionsNaming j + (s.captureUnit u).decodeSet.count j
      = s.positionsNaming j + x.decodeSet.count j := by
  simp only [positionsNaming_eq, setUnit_captureUnit]
  exact sum_replace s.captureUnit (fun c => c.decodeSet.count j) u x

/-- Replacing a channel moves the count of a slot by the descriptors that go and come. -/
theorem descriptorsNaming_setChannel (n : Fin 4) (ch : Channel) (s : State) (i : Fin 32) :
    (s.setChannel n ch).descriptorsNaming i + (s.channel n).queue.countP (fun d => d.slot = i)
      = s.descriptorsNaming i + ch.queue.countP (fun d => d.slot = i) := by
  simp only [descriptorsNaming_eq, setChannel_channel]
  exact sum_replace s.channel (fun c => c.queue.countP (fun d => d.slot = i)) n ch

theorem cellsNaming_congr {s t : State} (h : ∀ i, (t.slot i).cells = (s.slot i).cells) (j : Fin 64) :
    t.cellsNaming j = s.cellsNaming j := by
  simp only [cellsNaming_eq, h]

theorem positionsNaming_congr {s t : State}
    (h : ∀ u, (t.captureUnit u).decodeSet = (s.captureUnit u).decodeSet) (j : Fin 64) :
    t.positionsNaming j = s.positionsNaming j := by
  simp only [positionsNaming_eq, h]

theorem descriptorsNaming_congr {s t : State} (h : ∀ n, (t.channel n).queue = (s.channel n).queue) (i : Fin 32) :
    t.descriptorsNaming i = s.descriptorsNaming i := by
  simp only [descriptorsNaming_eq, h]

/-! ### Counts and frames read back -/

@[simp] theorem raiseRefs_symbol (l : List (Fin 64)) (s : State) (j : Fin 64) :
    (s.raiseRefs l).symbol j = { s.symbol j with refs := (s.symbol j).refs + l.count j } := by
  simp [raiseRefs_eq, State.symbol]

@[simp] theorem lowerRefs_symbol (l : List (Fin 64)) (s : State) (j : Fin 64) :
    (s.lowerRefs l).symbol j = { s.symbol j with refs := (s.symbol j).refs - l.count j } := by
  simp [lowerRefs_eq, State.symbol]

@[simp] theorem lowerFrames_slot (l : List Descriptor) (s : State) (i : Fin 32) :
    (s.lowerFrames l).slot i
      = { s.slot i with frames := (s.slot i).frames - l.countP (fun d => d.slot = i) } := by
  simp [lowerFrames_eq, State.slot]

@[simp] theorem raiseRefs_slot (l : List (Fin 64)) (s : State) (i : Fin 32) :
    (s.raiseRefs l).slot i = s.slot i := by simp only [raiseRefs_eq, State.slot]

@[simp] theorem lowerRefs_slot (l : List (Fin 64)) (s : State) (i : Fin 32) :
    (s.lowerRefs l).slot i = s.slot i := by simp only [lowerRefs_eq, State.slot]

@[simp] theorem raiseRefs_captureUnit (l : List (Fin 64)) (s : State) (u : Fin 2) :
    (s.raiseRefs l).captureUnit u = s.captureUnit u := by simp only [raiseRefs_eq, State.captureUnit]

@[simp] theorem lowerRefs_captureUnit (l : List (Fin 64)) (s : State) (u : Fin 2) :
    (s.lowerRefs l).captureUnit u = s.captureUnit u := by simp only [lowerRefs_eq, State.captureUnit]

@[simp] theorem raiseRefs_channel (l : List (Fin 64)) (s : State) (n : Fin 4) :
    (s.raiseRefs l).channel n = s.channel n := by simp only [raiseRefs_eq, State.channel]

@[simp] theorem lowerRefs_channel (l : List (Fin 64)) (s : State) (n : Fin 4) :
    (s.lowerRefs l).channel n = s.channel n := by simp only [lowerRefs_eq, State.channel]

@[simp] theorem lowerFrames_symbols (l : List Descriptor) (s : State) : (s.lowerFrames l).symbols = s.symbols := by
  rw [lowerFrames_eq]

@[simp] theorem lowerFrames_channel (l : List Descriptor) (s : State) (n : Fin 4) :
    (s.lowerFrames l).channel n = s.channel n := by simp only [lowerFrames_eq, State.channel]

@[simp] theorem lowerFrames_captureUnit (l : List Descriptor) (s : State) (u : Fin 2) :
    (s.lowerFrames l).captureUnit u = s.captureUnit u := by simp only [lowerFrames_eq, State.captureUnit]

/-! ### What the tables and queues say of a name -/

/-- A symbol that a cell names has a count above 0. -/
theorem refs_pos_of_mem_cells {s : State} (h : TablesOk s) {i : Fin 32} {j : Fin 64} (hj : j ∈ (s.slot i).cells) :
    0 < (s.symbol j).refs := by
  obtain ⟨-, -, -, hrefs, -⟩ := h
  have hcount := List.count_pos_iff.mpr hj
  have hle := count_le_cellsNaming s i j
  have := hrefs j
  omega

/-- A symbol that a cell names has at least one phase, and phases of at most 65535 beats. -/
theorem lengths_of_mem_cells {s : State} (h : TablesOk s) {i : Fin 32} {j : Fin 64} (hj : j ∈ (s.slot i).cells) :
    0 < (s.symbol j).lengths.length ∧ ∀ l ∈ (s.symbol j).lengths, l ≤ 65535 := by
  have hrefs := refs_pos_of_mem_cells h hj
  obtain ⟨hsym, -, -, -, hdef⟩ := h
  have hok := hsym j
  simp only [Symbol.Ok, hdef j hrefs] at hok
  obtain ⟨hpos, -, hlen, -⟩ := hok
  exact ⟨hpos, fun l hl => (hlen l hl).2⟩

/-- A slot that a descriptor of a queue names has a frame count above 0. -/
theorem frames_pos_of_queued {s : State} (h : QueuesOk s) {n : Fin 4} {d : Descriptor}
    (hd : d ∈ (s.channel n).queue) : 0 < (s.slot d.slot).frames := by
  obtain ⟨-, hframes, -, -⟩ := h
  have hcount : 0 < (s.channel n).queue.countP (fun e => e.slot = d.slot) :=
    List.countP_pos_iff.mpr ⟨d, hd, by simp⟩
  have hle := countP_le_descriptorsNaming s n d.slot
  have := hframes d.slot
  omega

/-- The slot of a queued descriptor has a cell to play. -/
theorem frameLength_pos_of_queued {s : State} (ht : TablesOk s) (hq : QueuesOk s) {n : Fin 4} {d : Descriptor}
    (hd : d ∈ (s.channel n).queue) : 0 < s.frameLength d := by
  have hpos := frames_pos_of_queued hq hd
  obtain ⟨-, -, hsealed, -⟩ := hq
  obtain ⟨-, hslot, -, -, -⟩ := ht
  obtain ⟨-, -, hcells⟩ := hslot d.slot
  exact List.length_pos_iff.mpr (hcells (hsealed d.slot hpos))

/-- A cell position of a slot reads the symbol of one of its cells, in every state with that slot. -/
theorem cellSymbol_of_lt {s : State} {d : Descriptor} {p : Nat} (h : p < s.frameLength d) :
    ∃ j ∈ (s.slot d.slot).cells, ∀ t : State, t.slot d.slot = s.slot d.slot → t.cellSymbol d p = t.symbol j := by
  have hp : p < (s.slot d.slot).cells.length := h
  refine ⟨(s.slot d.slot).cells[p], List.getElem_mem hp, fun t ht => ?_⟩
  simp [State.cellSymbol, ht, List.getElem?_eq_getElem hp]

/-- A phase's length is at most 65535 beats at every cell of a slot; a position beyond the phases reads 0. -/
theorem lengthAt_le {s : State} (h : TablesOk s) {d : Descriptor} {p : Nat} (hp : p < s.frameLength d) (ph : Nat) :
    (s.cellSymbol d p).lengthAt ph ≤ 65535 := by
  obtain ⟨j, hj, hsym⟩ := cellSymbol_of_lt hp
  rw [hsym s rfl, Symbol.lengthAt]
  rcases hl : (s.symbol j).lengths[ph]? with _ | l
  · simp
  · exact (lengths_of_mem_cells h hj).2 l (List.mem_of_getElem? hl)

/-! ### Changes that keep the tables -/

/-- The tables do not speak of frame counts, channels or logs: what keeps records, cells, slot states and decode sets
keeps them. -/
theorem tablesOk_of_same_cells {s t : State} (h : TablesOk s) (hsym : t.symbols = s.symbols)
    (hcells : ∀ i, (t.slot i).cells = (s.slot i).cells) (hstate : ∀ i, (t.slot i).state = (s.slot i).state)
    (hset : ∀ u, (t.captureUnit u).decodeSet = (s.captureUnit u).decodeSet) : TablesOk t := by
  have hs : ∀ j, t.symbol j = s.symbol j := fun j => by simp only [State.symbol, hsym]
  unfold TablesOk Slot.Ok at *
  simpa only [hs, hcells, hstate, hset, cellsNaming_congr hcells, positionsNaming_congr hset] using h

/-- Records that move in their counts alone, to the number of names, keep the tables, if only DEFINED ones are named. -/
theorem tablesOk_of_recount {s t : State} (h : TablesOk s)
    (hsym : ∀ j, t.symbol j = { s.symbol j with refs := (t.symbol j).refs })
    (hslot : ∀ i, (t.slot i).Ok)
    (hset : ∀ u, (t.captureUnit u).decodeSet.length ≤ 12 ∧ (t.captureUnit u).decodeSet.Nodup)
    (hrefs : ∀ j, (t.symbol j).refs = t.cellsNaming j + t.positionsNaming j)
    (hdef : ∀ j, 0 < (t.symbol j).refs → (s.symbol j).state = .defined) : TablesOk t := by
  obtain ⟨hok, -, -, -, -⟩ := h
  refine ⟨fun j => ?_, hslot, hset, hrefs, fun j hj => ?_⟩
  · have hj := hok j
    have hd := hdef j
    rw [hsym j]
    cases hst : (s.symbol j).state with
    | defined => simpa only [Symbol.Ok, hst] using hj
    | empty =>
      simp only [Symbol.Ok, hst] at hj ⊢
      have hzero : (t.symbol j).refs = 0 := by
        by_contra hne
        simp [hst, Nat.pos_of_ne_zero hne] at hd
      rw [hj, hzero]
      rfl
  · rw [hsym j]
    exact hdef j hj

end Sys2Proof.Proofs
end

section
/-! SUPPORT. The invariant behind O53, and the changes of state that keep it. -/

namespace Sys2Proof.Proofs

open Sys2Proof Sys2Proof.Machine Sys2Proof.Machine.Laws

/-! ### The invariant -/

/-- The place of a channel's frame is one that its slot has and, under b, the numbers of its context are in their
ranges. With b false this is R53's place alone, so that one proof serves both halves of the promise. -/
def FrameOk (b : Prop) (s : State) (ch : Channel) : Prop := PlaceOk s ch ∧ (b → ContextOk s ch)

/-- PlayOk and, under b, ContextsOk. -/
structure FramesOk (b : Prop) (s : State) : Prop where
  tables : TablesOk s
  queues : QueuesOk s
  frame : ∀ n, FrameOk b s (s.channel n)

theorem framesOk_iff (b : Prop) (s : State) : FramesOk b s ↔ PlayOk s ∧ (b → ContextsOk s) := by
  constructor
  · intro h
    exact ⟨⟨h.tables, h.queues, fun n => (h.frame n).1⟩, fun hb n => (h.frame n).2 hb⟩
  · rintro ⟨⟨ht, hq, hp⟩, hc⟩
    exact ⟨ht, hq, fun n => ⟨hp n, fun hb => hc hb n⟩⟩

/-! ### The place and the numbers by state -/

theorem frameOk_of_noContext {b : Prop} {s : State} {ch : Channel} (h : ch.state.context = none) :
    FrameOk b s ch := by
  cases hst : ch.state with
  | idle => simp [FrameOk, PlaceOk, ContextOk, hst]
  | logwait r => simp [FrameOk, PlaceOk, ContextOk, hst]
  | held c => cases c <;> simp_all [FrameOk, PlaceOk, ContextOk, ChannelState.context]
  | play c => simp [hst, ChannelState.context] at h
  | gap c => simp [hst, ChannelState.context] at h

theorem frameOk_play {b : Prop} {s : State} {ch : Channel} {c : Context} {d : Descriptor} {rest : List Descriptor}
    (hst : ch.state = .play c) (hq : ch.queue = d :: rest) :
    FrameOk b s ch ↔ (c.position < s.frameLength d ∧ c.phase < (s.cellSymbol d c.position).lengths.length)
      ∧ (b → c.Ok d ∧ c.Uncounted d) := by
  simp [FrameOk, PlaceOk, ContextOk, hst, hq]

theorem frameOk_gap {b : Prop} {s : State} {ch : Channel} {c : Context} {d : Descriptor} {rest : List Descriptor}
    (hst : ch.state = .gap c) (hq : ch.queue = d :: rest) :
    FrameOk b s ch ↔ (c.position = s.frameLength d ∧ 0 < d.gap) ∧ (b → c.Ok d ∧ c.phase = 0) := by
  simp [FrameOk, PlaceOk, ContextOk, hst, hq]

theorem frameOk_held {b : Prop} {s : State} {ch : Channel} {c : Context} {d : Descriptor} {rest : List Descriptor}
    (hst : ch.state = .held (some c)) (hq : ch.queue = d :: rest) :
    FrameOk b s ch ↔ (c.position < s.frameLength d ∨ (c.position = s.frameLength d ∧ 0 < d.gap))
      ∧ (b → c.Ok d ∧ c.phase = 0 ∧ c.remaining = 0 ∧ (c.position < s.frameLength d → c.Uncounted d)) := by
  simp [FrameOk, PlaceOk, ContextOk, hst, hq]

/-- A frame in progress is the head of its channel's queue. -/
theorem queue_ne_nil_of_frameOk {b : Prop} {s : State} {ch : Channel} (h : FrameOk b s ch)
    (hc : ch.state.context ≠ none) : ch.queue ≠ [] := by
  obtain ⟨hplace, -⟩ := h
  intro hq
  cases hst : ch.state with
  | idle => simp [hst, ChannelState.context] at hc
  | logwait r => simp [hst, ChannelState.context] at hc
  | held c => cases c <;> simp_all [PlaceOk, ChannelState.context]
  | play c => simp [PlaceOk, hst, hq] at hplace
  | gap c => simp [PlaceOk, hst, hq] at hplace

/-- Two states hold a descriptor's sequence alike: as many cells, and as many phases at each. -/
def SameShape (s t : State) (d : Descriptor) : Prop :=
  t.frameLength d = s.frameLength d
    ∧ ∀ p < s.frameLength d, (t.cellSymbol d p).lengths.length = (s.cellSymbol d p).lengths.length

/-- The place and the numbers of a frame depend on the channel's state, on the head of its queue while it has a frame,
and on the shape of the head's sequence. -/
theorem frameOk_transfer {b : Prop} {s t : State} {ch ch' : Channel} (h : FrameOk b s ch)
    (hst : ch'.state = ch.state) (hq : ch.state.context ≠ none → ch'.queue.head? = ch.queue.head?)
    (hd : ∀ d ∈ ch.queue, SameShape s t d) : FrameOk b t ch' := by
  by_cases hc : ch.state.context = none
  · exact frameOk_of_noContext (by rw [hst, hc])
  obtain ⟨d, rest, hch⟩ := List.exists_cons_of_ne_nil (queue_ne_nil_of_frameOk h hc)
  obtain ⟨rest', hch'⟩ : ∃ rest', ch'.queue = d :: rest' := by
    have hhead := hq hc
    rw [hch, List.head?_cons] at hhead
    exact List.head?_eq_some_iff.mp hhead
  obtain ⟨hlen, hsym⟩ := hd d (by simp [hch])
  cases hs : ch.state with
  | idle => simp [hs, ChannelState.context] at hc
  | logwait r => simp [hs, ChannelState.context] at hc
  | play c =>
    rw [frameOk_play hs hch] at h
    rw [frameOk_play (hst.trans hs) hch', hlen, hsym _ h.1.1]
    exact h
  | gap c =>
    rw [frameOk_gap hs hch] at h
    rw [frameOk_gap (hst.trans hs) hch', hlen]
    exact h
  | held c =>
    cases c with
    | none => simp [hs, ChannelState.context] at hc
    | some c =>
      rw [frameOk_held hs hch] at h
      rw [frameOk_held (hst.trans hs) hch', hlen]
      exact h

/-- Sequences whose cells, and whose records' lengths, stand as they were have their shape. -/
theorem sameShape_of_same_cells {s t : State} (hsym : t.symbols = s.symbols)
    (hcells : ∀ i, (t.slot i).cells = (s.slot i).cells) (d : Descriptor) : SameShape s t d := by
  refine ⟨by simp only [State.frameLength, hcells], fun p _ => ?_⟩
  simp only [State.cellSymbol, State.symbol, hsym, hcells]

/-! ### Changes that keep the invariant -/

/-- Changes of channels and frame counts over the same records, cells and decode sets: the queues and the frames are what
is left to show. -/
theorem framesOk_of_same_cells {b : Prop} {s t : State} (h : FramesOk b s) (hsym : t.symbols = s.symbols)
    (hcells : ∀ i, (t.slot i).cells = (s.slot i).cells) (hstate : ∀ i, (t.slot i).state = (s.slot i).state)
    (hset : ∀ u, (t.captureUnit u).decodeSet = (s.captureUnit u).decodeSet) (hq : QueuesOk t)
    (hf : ∀ n, FrameOk b s (t.channel n)) : FramesOk b t :=
  ⟨tablesOk_of_same_cells h.tables hsym hcells hstate hset, hq,
    fun n => frameOk_transfer (hf n) rfl (fun _ => rfl) (fun d _ => sameShape_of_same_cells hsym hcells d)⟩

/-- The queues' promise speaks of the slots and the queues alone. -/
theorem queuesOk_of_same_queues {s t : State} (h : QueuesOk s) (hslots : t.slots = s.slots)
    (hq : ∀ n, (t.channel n).queue = (s.channel n).queue) : QueuesOk t := by
  have hs : ∀ i, t.slot i = s.slot i := fun i => by simp only [State.slot, hslots]
  unfold QueuesOk State.frameLength at *
  simpa only [hs, hq, descriptorsNaming_congr hq] using h

/-- Changes of the channels' own states over the same tables and queues. -/
theorem framesOk_of_same_queues {b : Prop} {s t : State} (h : FramesOk b s) (hsym : t.symbols = s.symbols)
    (hslots : t.slots = s.slots) (hq : ∀ n, (t.channel n).queue = (s.channel n).queue)
    (hset : ∀ u, (t.captureUnit u).decodeSet = (s.captureUnit u).decodeSet)
    (hf : ∀ n, FrameOk b s (t.channel n)) : FramesOk b t :=
  framesOk_of_same_cells h hsym (fun i => by simp only [State.slot, hslots])
    (fun i => by simp only [State.slot, hslots]) hset (queuesOk_of_same_queues h.queues hslots hq) hf

/-- Two states have the same tables, queues and channel states. -/
structure SameFrames (s t : State) : Prop where
  symbols : t.symbols = s.symbols
  slots : t.slots = s.slots
  queue : ∀ n, (t.channel n).queue = (s.channel n).queue
  state : ∀ n, (t.channel n).state = (s.channel n).state
  decodeSet : ∀ u, (t.captureUnit u).decodeSet = (s.captureUnit u).decodeSet

theorem SameFrames.refl (s : State) : SameFrames s s := ⟨rfl, rfl, fun _ => rfl, fun _ => rfl, fun _ => rfl⟩

/-- Records, slots, channels and units that stand make the frames stand. -/
theorem SameFrames.of_eq {s t : State} (hsym : t.symbols = s.symbols) (hslots : t.slots = s.slots)
    (hch : t.channels = s.channels) (hunits : t.units = s.units) : SameFrames s t :=
  ⟨hsym, hslots, fun n => by simp only [State.channel, hch], fun n => by simp only [State.channel, hch],
    fun u => by simp only [State.captureUnit, hunits]⟩

theorem SameFrames.trans {s t u : State} (h : SameFrames s t) (k : SameFrames t u) : SameFrames s u :=
  ⟨k.symbols.trans h.symbols, k.slots.trans h.slots, fun n => (k.queue n).trans (h.queue n),
    fun n => (k.state n).trans (h.state n), fun n => (k.decodeSet n).trans (h.decodeSet n)⟩

theorem SameFrames.framesOk {b : Prop} {s t : State} (k : SameFrames s t) (h : FramesOk b s) : FramesOk b t :=
  framesOk_of_same_queues h k.symbols k.slots k.queue k.decodeSet
    (fun n => frameOk_transfer (h.frame n) (k.state n) (fun _ => by rw [k.queue n])
      (fun _ _ => ⟨rfl, fun _ _ => rfl⟩))

/-- A channel is replaced by one with the same queue. -/
theorem framesOk_setChannel {b : Prop} {s : State} (h : FramesOk b s) {n : Fin 4} {ch : Channel}
    (hq : ch.queue = (s.channel n).queue) (hf : FrameOk b s ch) : FramesOk b (s.setChannel n ch) := by
  refine framesOk_of_same_queues h rfl rfl (fun k => ?_) (fun _ => rfl) (fun k => ?_)
  · rw [setChannel_channel]
    split
    · next e => rw [e, hq]
    · rfl
  · rw [setChannel_channel]
    split
    · exact hf
    · exact h.frame k

/-- Descriptors leave a queue, each with its slot's frame count: what stays is in its order, and the channel goes on with
a frame whose place is good, or with none. -/
theorem framesOk_depart {b : Prop} {s : State} (h : FramesOk b s) {n : Fin 4} {ch : Channel} {out : List Descriptor}
    (hperm : (s.channel n).queue.Perm (out ++ ch.queue)) (hf : FrameOk b s ch) :
    FramesOk b ((s.lowerFrames out).setChannel n ch) := by
  obtain ⟨hlen, hframes, hsealed, hdesc⟩ := h.queues
  refine framesOk_of_same_cells h (by simp) (fun i => by simp) (fun i => by simp) (fun u => by simp)
    ⟨fun k => ?_, fun i => ?_, fun i hi => ?_, fun k d hd => ?_⟩ (fun k => ?_)
  · rw [setChannel_channel]
    split
    · have := hlen n
      have := hperm.length_eq
      simp only [List.length_append] at this
      omega
    · simpa using hlen k
  · have hsum := descriptorsNaming_setChannel n ch (s.lowerFrames out) i
    have hcount := hperm.countP_eq (fun d => decide (d.slot = i))
    have hsame : (s.lowerFrames out).descriptorsNaming i = s.descriptorsNaming i :=
      descriptorsNaming_congr (fun k => by simp) i
    have hfr := hframes i
    have hle := countP_le_descriptorsNaming s n i
    simp only [lowerFrames_channel, List.countP_append] at hsum hcount
    simp only [setChannel_slot, lowerFrames_slot]
    omega
  · simp only [setChannel_slot, lowerFrames_slot] at hi ⊢
    exact hsealed i (by omega)
  · have hmem : ∃ m, d ∈ (s.channel m).queue := by
      rw [setChannel_channel] at hd
      split at hd
      · exact ⟨n, hperm.mem_iff.mpr (List.mem_append_right _ hd)⟩
      · exact ⟨k, by simpa using hd⟩
    obtain ⟨m, hm⟩ := hmem
    simpa [State.frameLength] using hdesc m d hm
  · rw [setChannel_channel]
    split
    · exact hf
    · simpa using h.frame k

/-- A descriptor joins a queue at the tail, with its slot's frame count. -/
theorem framesOk_post {b : Prop} {s : State} (h : FramesOk b s) {n : Fin 4} {ch : Channel} {d : Descriptor}
    (hst : ch.state = (s.channel n).state) (hq : ch.queue = (s.channel n).queue ++ [d])
    (hroom : (s.channel n).queue.length < 6) (hsealed : (s.slot d.slot).state = .sealed) (hrep : d.repeats ≤ 255)
    (hgap : d.gap ≤ 65535) (hfrom : ∀ f, d.repeatFrom = some f → f < s.frameLength d) :
    FramesOk b ((s.setChannel n ch).raiseFrames d.slot) := by
  obtain ⟨hlen, hframes, hseal, hdesc⟩ := h.queues
  have hslot : ∀ i, ((s.setChannel n ch).raiseFrames d.slot).slot i
      = { s.slot i with frames := (s.slot i).frames + [d].countP (fun e => e.slot = i) } := by
    intro i
    by_cases hi : i = d.slot
    · simp [State.raiseFrames, hi]
    · simp [State.raiseFrames, hi, Ne.symm hi]
  have hchan : ∀ k, ((s.setChannel n ch).raiseFrames d.slot).channel k = if k = n then ch else s.channel k := by
    simp [State.raiseFrames]
  refine framesOk_of_same_cells h rfl (fun i => by rw [hslot]) (fun i => by rw [hslot]) (fun u => rfl)
    ⟨fun k => ?_, fun i => ?_, fun i hi => ?_, fun k e he => ?_⟩ (fun k => ?_)
  · rw [hchan]
    split
    · simpa [hq] using hroom
    · exact hlen k
  · have hsum := descriptorsNaming_setChannel n ch s i
    have hsame : ((s.setChannel n ch).raiseFrames d.slot).descriptorsNaming i
        = (s.setChannel n ch).descriptorsNaming i := descriptorsNaming_congr (fun _ => rfl) i
    rw [hq, List.countP_append] at hsum
    rw [hslot, hsame]
    have := hframes i
    simp only
    omega
  · rw [hslot] at hi ⊢
    by_cases hid : d.slot = i
    · rw [← hid]
      exact hsealed
    · exact hseal i (by simpa [hid] using hi)
  · have hold : (∃ m, e ∈ (s.channel m).queue) ∨ e = d := by
      rw [hchan] at he
      split at he
      · rw [hq, List.mem_append, List.mem_singleton] at he
        exact he.imp_left (fun he => ⟨n, he⟩)
      · exact .inl ⟨k, he⟩
    simp only [State.frameLength, hslot]
    rcases hold with ⟨m, hm⟩ | rfl
    · exact hdesc m e hm
    · exact ⟨hrep, hgap, hfrom⟩
  · rw [hchan]
    split
    · refine frameOk_transfer (h.frame n) hst (fun hc => ?_) (fun _ _ => ⟨rfl, fun _ _ => rfl⟩)
      obtain ⟨d', rest, hcons⟩ := List.exists_cons_of_ne_nil (queue_ne_nil_of_frameOk (h.frame n) hc)
      simp [hq, hcons]
    · exact h.frame k

/-- Changes of records, slots and decode sets that keep the tables: every slot that a descriptor names, and the lengths
of every symbol that a name counts, stand as they were. -/
theorem framesOk_of_named {b : Prop} {s t : State} (h : FramesOk b s) (ht : TablesOk t)
    (hch : t.channels = s.channels)
    (hslot : ∀ i, t.slot i = s.slot i ∨ ((s.slot i).frames = 0 ∧ (t.slot i).frames = 0))
    (hsym : ∀ j, 0 < (s.symbol j).refs → (t.symbol j).lengths = (s.symbol j).lengths) : FramesOk b t := by
  have hchan : ∀ n, t.channel n = s.channel n := fun n => by simp only [State.channel, hch]
  have hnamed : ∀ n, ∀ d ∈ (s.channel n).queue, t.slot d.slot = s.slot d.slot := by
    intro n d hd
    rcases hslot d.slot with e | ⟨e, -⟩
    · exact e
    · have := frames_pos_of_queued h.queues hd
      omega
  obtain ⟨hlen, hframes, hsealed, hdesc⟩ := h.queues
  refine ⟨ht, ⟨fun n => ?_, fun i => ?_, fun i hi => ?_, fun n d hd => ?_⟩, fun n => ?_⟩
  · rw [hchan]
    exact hlen n
  · rw [descriptorsNaming_congr (s := s) (fun n => by rw [hchan]) i, ← hframes i]
    rcases hslot i with e | ⟨e, e'⟩
    · rw [e]
    · rw [e, e']
  · rcases hslot i with e | ⟨-, e⟩
    · rw [e] at hi ⊢
      exact hsealed i hi
    · omega
  · rw [hchan] at hd
    simpa only [State.frameLength, hnamed n d hd] using hdesc n d hd
  · refine frameOk_transfer (h.frame n) (by rw [hchan]) (fun _ => by rw [hchan]) (fun d hd => ?_)
    refine ⟨by simp only [State.frameLength, hnamed n d hd], fun p hp => ?_⟩
    obtain ⟨j, hj, hcell⟩ := cellSymbol_of_lt hp
    rw [hcell s rfl, hcell t (hnamed n d hd), hsym j (refs_pos_of_mem_cells h.tables hj)]

end Sys2Proof.Proofs
end

section
/-! SUPPORT. What the operations of channels, queues and the completion log keep of records and frames. -/

namespace Sys2Proof.Proofs

open Sys2Proof Sys2Proof.Machine Sys2Proof.Machine.Laws

/-- t has the records of s, and the invariant where s has it. -/
structure KeepsFrames (b : Prop) (s t : State) : Prop where
  symbols : t.symbols = s.symbols
  frames : FramesOk b s → FramesOk b t

theorem KeepsFrames.refl (b : Prop) (s : State) : KeepsFrames b s s := ⟨rfl, id⟩

theorem KeepsFrames.trans {b : Prop} {s t u : State} (h : KeepsFrames b s t) (k : KeepsFrames b t u) :
    KeepsFrames b s u := ⟨k.symbols.trans h.symbols, fun hs => k.frames (h.frames hs)⟩

theorem SameFrames.keeps {b : Prop} {s t : State} (h : SameFrames s t) : KeepsFrames b s t :=
  ⟨h.symbols, h.framesOk⟩

/-! ### Changes outside the frames -/

theorem sameFrames_setFlag (f : Flag) (s : State) : SameFrames s (s.setFlag f) :=
  .of_eq rfl rfl rfl rfl

theorem sameFrames_examineFull (before : Nat) (s : State) : SameFrames s (examineFull before s) := by
  rcases examineFull_cases before s with ⟨-, -, h⟩ | h <;> rw [h]
  · exact sameFrames_setFlag _ s
  · exact .refl s

theorem sameFrames_examineLow (n : Fin 4) (before after wOld wNew : Nat) (s : State) :
    SameFrames s (examineLow n before after wOld wNew s) := by
  rcases examineLow_cases n before after wOld wNew s with h | h <;> rw [h]
  · exact sameFrames_setFlag _ s
  · exact .refl s

theorem sameFrames_postRecord (r : Completion) (s : State) : SameFrames s (postRecord r s) :=
  .of_eq rfl rfl rfl rfl

/-- Two states that agree still agree when a channel is replaced alike in both. -/
theorem SameFrames.setChannel {s t : State} (h : SameFrames s t) (n : Fin 4) {ch ch' : Channel}
    (hst : ch'.state = ch.state) (hq : ch'.queue = ch.queue) :
    SameFrames (s.setChannel n ch) (t.setChannel n ch') := by
  refine ⟨h.symbols, h.slots, fun k => ?_, fun k => ?_, h.decodeSet⟩
  · simp only [setChannel_channel]
    split
    · exact hq
    · exact h.queue k
  · simp only [setChannel_channel]
    split
    · exact hst
    · exact h.state k

theorem SameFrames.setState {s t : State} (h : SameFrames s t) (n : Fin 4) (x : ChannelState) :
    SameFrames (s.setState n x) (t.setState n x) :=
  h.setChannel n rfl (h.queue n)

/-- Giving a channel what it holds changes nothing. -/
theorem setChannel_self (n : Fin 4) (s : State) : s.setChannel n (s.channel n) = s := by
  simp [State.setChannel, State.channel]

/-- The second of two replacements of a channel stands. -/
theorem setChannel_setChannel (n : Fin 4) (c c' : Channel) (s : State) :
    (s.setChannel n c).setChannel n c' = s.setChannel n c' := by
  simp [State.setChannel]

/-- A channel is replaced by one with the same state and queue. -/
theorem sameFrames_setChannel {s : State} {n : Fin 4} {ch : Channel} (hst : ch.state = (s.channel n).state)
    (hq : ch.queue = (s.channel n).queue) : SameFrames s (s.setChannel n ch) := by
  have h := (SameFrames.refl s).setChannel n hst hq
  rwa [setChannel_self] at h

theorem sameFrames_beatTaken (n : Fin 4) (s : State) : SameFrames s (beatTaken n s) :=
  sameFrames_setChannel rfl rfl

/-! ### A channel's own state -/

/-- A channel is replaced by one with the same queue. -/
theorem keeps_setChannel {b : Prop} {s : State} {n : Fin 4} {ch : Channel} (hq : ch.queue = (s.channel n).queue)
    (hf : FramesOk b s → FrameOk b s ch) : KeepsFrames b s (s.setChannel n ch) :=
  ⟨rfl, fun h => framesOk_setChannel h hq (hf h)⟩

/-- A channel is replaced by one with the same state and queue. -/
theorem keeps_setChannel_same {b : Prop} {s : State} {n : Fin 4} {ch : Channel}
    (hst : ch.state = (s.channel n).state) (hq : ch.queue = (s.channel n).queue) :
    KeepsFrames b s (s.setChannel n ch) :=
  (sameFrames_setChannel hst hq).keeps

/-- A channel goes to a state without a frame. -/
theorem keeps_setState_noContext {b : Prop} {s : State} {n : Fin 4} {x : ChannelState} (hx : x.context = none) :
    KeepsFrames b s (s.setState n x) :=
  keeps_setChannel rfl (fun _ => frameOk_of_noContext hx)

/-! ### Records and the wait list -/

/-- A channel whose record is in the log goes on without a frame. -/
theorem afterPosted_frames (n : Fin 4) (s : State) :
    ∃ x : ChannelState, x.context = none ∧ SameFrames (s.setState n x) (afterPosted n s) := by
  rcases afterPosted_cases n s with ⟨-, h⟩ | ⟨-, h⟩
  · refine ⟨.held none, rfl, ?_⟩
    rw [h]
    refine SameFrames.trans ?_ (sameFrames_setFlag _ _)
    exact (SameFrames.refl s).setChannel n rfl rfl
  · refine ⟨.idle, rfl, ?_⟩
    rw [h]
    exact (SameFrames.refl s).setChannel n rfl rfl

theorem afterPosted_keeps (b : Prop) (n : Fin 4) (s : State) : KeepsFrames b s (afterPosted n s) := by
  obtain ⟨x, hx, h⟩ := afterPosted_frames n s
  exact (keeps_setState_noContext hx).trans h.keeps

/-- A channel whose frame-end record is handed over goes on without a frame. -/
theorem handRecord_frames (n : Fin 4) (r : Completion) (s : State) :
    ∃ x : ChannelState, x.context = none ∧ SameFrames (s.setState n x) (handRecord n r s) := by
  rcases handRecord_cases n r s with ⟨-, h⟩ | ⟨-, h⟩
  · obtain ⟨x, hx, hsame⟩ := afterPosted_frames n (examineFull s.log.length (postRecord r s))
    have hpost := (sameFrames_postRecord r s).trans (sameFrames_examineFull s.log.length (postRecord r s))
    exact ⟨x, hx, by rw [h]; exact (hpost.setState n x).trans hsame⟩
  · refine ⟨.logwait r, rfl, ?_⟩
    rw [h]
    have hset : SameFrames (s.setState n (.logwait r))
        (s.setChannel n { s.channel n with state := .logwait r, beatDue := false }) :=
      (SameFrames.refl s).setChannel n rfl rfl
    exact hset.trans (.of_eq rfl rfl rfl rfl)

theorem admitWaiting_keeps (b : Prop) (s : State) : KeepsFrames b s (admitWaiting s) := by
  rcases admitWaiting_cases s with ⟨n, rest, r, -, -, h⟩ | ⟨-, h⟩ <;> rw [h]
  · have hwait : SameFrames s { s with waitList := rest } := .of_eq rfl rfl rfl rfl
    have hsame := (hwait.trans (sameFrames_postRecord r _)).trans (sameFrames_beatTaken n _)
    exact hsame.keeps.trans (afterPosted_keeps b n _)
  · exact .refl b s

theorem recordAdmission_keeps (b : Prop) (s : State) : KeepsFrames b s (recordAdmission s) := by
  unfold recordAdmission
  split
  · exact admitWaiting_keeps b s
  · exact .refl b s

theorem cmdClPop_keeps {b : Prop} {s t : State} (h : cmdClPop s = .ok t) : KeepsFrames b s t := by
  unfold cmdClPop at h
  split at h
  · cases h
  · next r rest _ =>
    cases h
    have hpop : SameFrames s { s with clOut := r.words, log := rest } :=
      .of_eq rfl rfl rfl rfl
    exact hpop.keeps.trans (admitWaiting_keeps b _)

/-! ### Frame ends and flushes -/

/-- A frame ends: the head leaves the queue and its slot's count, and the channel goes on without a frame. -/
theorem frameEnd_frames {n : Fin 4} {s : State} {d : Descriptor} {rest : List Descriptor}
    (hq : (s.channel n).queue = d :: rest) (o : FrameOutcome) (c : Context) (w : Nat) :
    ∃ x : ChannelState, x.context = none ∧ SameFrames
      ((s.lowerFrames [d]).setChannel n { s.channel n with state := x, queue := rest }) (frameEnd n o c w s) := by
  rw [frameEnd_cons hq]
  obtain ⟨x, hx, hsame⟩ := handRecord_frames n (frameRecord n d o c)
    (examineLow n (rest.length + 1) rest.length w (s.channel n).watermark
      ((s.setSlot d.slot { s.slot d.slot with frames := (s.slot d.slot).frames - 1 }).setChannel n
        { s.channel n with queue := rest, abortPending := false, resumePending := false }))
  refine ⟨x, hx, SameFrames.trans ?_ (((sameFrames_examineLow n _ _ w _ _).setState n x).trans hsame)⟩
  rw [setState_eq, setChannel_setChannel, setChannel_channel, if_pos rfl]
  exact (SameFrames.refl (s.lowerFrames [d])).setChannel n rfl rfl

theorem frameEnd_keeps (b : Prop) (n : Fin 4) (o : FrameOutcome) (c : Context) (w : Nat) (s : State) :
    KeepsFrames b s (frameEnd n o c w s) := by
  cases hq : (s.channel n).queue with
  | nil =>
    rw [frameEnd_nil hq]
    exact .refl b s
  | cons d rest =>
    obtain ⟨x, hx, hsame⟩ := frameEnd_frames hq o c w
    refine ⟨hsame.symbols, fun h => hsame.framesOk (framesOk_depart h ?_ (frameOk_of_noContext hx))⟩
    rw [hq]
    exact .refl _

/-- The descriptors that FLUSH takes and the ones that it leaves are the queue. -/
theorem flush_perm (ch : Channel) : ch.queue.Perm (ch.flushSelected ++ ch.flushKept) := by
  unfold Channel.flushSelected Channel.flushKept
  split
  · exact (List.perm_append_comm.trans (List.Perm.of_eq (List.take_append_drop 1 ch.queue))).symm
  · simp

/-- What FLUSH does to records and frames: the selected descriptors leave. -/
theorem flushChannel_frames (n : Fin 4) (s : State) : SameFrames
    ((s.lowerFrames (s.channel n).flushSelected).setChannel n { s.channel n with queue := (s.channel n).flushKept })
    (flushChannel n s) := by
  have hchan : SameFrames
      ((s.lowerFrames (s.channel n).flushSelected).setChannel n { s.channel n with queue := (s.channel n).flushKept })
      ((s.lowerFrames (s.channel n).flushSelected).modChannel n (fun c =>
        { c with queue := (s.channel n).flushKept, beatDue := c.beatDue && c.state ≠ .idle })) :=
    (SameFrames.refl _).setChannel n (by simp) rfl
  unfold flushChannel
  refine SameFrames.trans ?_ ((sameFrames_examineLow n _ _ _ _ _).trans (sameFrames_examineFull _ _))
  refine SameFrames.trans ?_ (sameFrames_setFlag _ _)
  exact hchan.trans (.of_eq rfl rfl rfl rfl)

theorem flushChannel_keeps (b : Prop) (n : Fin 4) (s : State) : KeepsFrames b s (flushChannel n s) := by
  have hsame := flushChannel_frames n s
  refine ⟨hsame.symbols.trans (by simp), fun h => hsame.framesOk (framesOk_depart h (flush_perm _) ?_)⟩
  refine frameOk_transfer (h.frame n) rfl (fun hc => ?_) (fun _ _ => ⟨rfl, fun _ _ => rfl⟩)
  have hsome : (s.channel n).state.context.isSome = true := by simpa [Option.isSome_iff_ne_none] using hc
  simp [Channel.flushKept, hsome, List.head?_take]

theorem cmdFlush_keeps {b : Prop} {s t : State} (h : cmdFlush s = .ok t) : KeepsFrames b s t := by
  unfold cmdFlush at h
  split at h
  · cases h
  · next n _ =>
    split at h
    · cases h
    · split at h
      · cases h
      · cases h
        exact flushChannel_keeps b n s

/-- POST_FRAME puts a descriptor in R33's ranges at the tail of a queue with room, for a SEALED slot. -/
theorem cmdPostFrame_keeps {b : Prop} {s t : State} (h : cmdPostFrame s = .ok t) : KeepsFrames b s t := by
  unfold cmdPostFrame at h
  split at h
  · next n i _ _ =>
    split at h
    · cases h
    · next hsealed =>
      split at h
      · cases h
      · next hargs =>
        split at h
        · cases h
        · next hroom =>
          cases h
          simp only [postArgsBad, Bool.or_eq_true, Bool.and_eq_true, decide_eq_true_eq, not_or, not_and,
            ne_eq] at hargs
          obtain ⟨⟨hrep, hfrom⟩, -⟩ := hargs
          refine ⟨rfl, fun hs => framesOk_post (d := postedDescriptor s i) hs rfl rfl (by omega)
            (by simpa [postedDescriptor] using hsealed) (Nat.le_of_not_lt hrep)
            (Nat.le_of_lt_succ (s.arg 4).isLt) (fun f hf => ?_)⟩
          simp only [postedDescriptor, repeatFromOf] at hf
          split at hf
          · cases hf
          · next hne =>
            cases hf
            exact Nat.lt_of_not_le (hfrom hne)
  · cases h

end Sys2Proof.Proofs
end

section
/-! SUPPORT. What a channel's own events and commands keep: playing, boundaries, requests and TXn_CTRL. -/

namespace Sys2Proof.Proofs

open Sys2Proof Sys2Proof.Machine Sys2Proof.Machine.Laws

/-! ### Beginning a phase, a symbol and a gap -/

/-- The place and the numbers with which the next step of a frame may begin (R59, R60). -/
def NextOk (b : Prop) (s : State) (d : Descriptor) : NextStep × Context → Prop
  | (.symbol, c) => c.position < s.frameLength d ∧ (b → c.Ok d ∧ c.Uncounted d)
  | (.gap, c) => (c.position = s.frameLength d ∧ 0 < d.gap) ∧ (b → c.Ok d)
  | (.finish, _) => True

/-- The head of a channel's queue is in R33's ranges. -/
theorem head_ranges {b : Prop} {s : State} (h : FramesOk b s) {n : Fin 4} {d : Descriptor} {rest : List Descriptor}
    (hq : (s.channel n).queue = d :: rest) :
    d.repeats ≤ 255 ∧ d.gap ≤ 65535 ∧ ∀ f, d.repeatFrom = some f → f < s.frameLength d := by
  obtain ⟨-, -, -, hdesc⟩ := h.queues
  exact hdesc n d (by simp [hq])

/-- Any beats remaining up to 65535 are in range, at any phase position and with either carrier-absent flag. -/
theorem contextOk_replay {c : Context} {d : Descriptor} (h : c.Ok d) {ph len : Nat} {absent : Bool}
    (hlen : len ≤ 65535) :
    Context.Ok { c with phase := ph, remaining := len, carrierAbsent := absent } d := by
  obtain ⟨h1, h2, h3, h4, -⟩ := h
  exact ⟨h1, h2, h3, h4, hlen⟩

theorem beginPhase_keeps {b : Prop} {n : Fin 4} {s : State} {d : Descriptor} {rest : List Descriptor} {c : Context}
    (hq : (s.channel n).queue = d :: rest)
    (hc : FramesOk b s → (c.position < s.frameLength d ∧ c.phase < (s.cellSymbol d c.position).lengths.length)
      ∧ (b → c.Ok d ∧ c.Uncounted d)) : KeepsFrames b s (beginPhase n d c s) := by
  obtain ⟨absent, heq⟩ := beginPhase_cases n d c s
  rw [heq]
  refine keeps_setChannel rfl (fun h => ?_)
  obtain ⟨hplace, hnum⟩ := hc h
  have hlen := lengthAt_le h.tables hplace.1 c.phase
  exact Iff.mpr (frameOk_play rfl hq) ⟨hplace, fun hb => ⟨contextOk_replay (hnum hb).1 hlen, (hnum hb).2⟩⟩

theorem beginSymbol_keeps {b : Prop} {n : Fin 4} {s : State} {d : Descriptor} {rest : List Descriptor} {c : Context}
    (hq : (s.channel n).queue = d :: rest) (hc : FramesOk b s → NextOk b s d (.symbol, c)) :
    KeepsFrames b s (beginSymbol n d c s) := by
  refine beginPhase_keeps hq (fun h => ?_)
  obtain ⟨hpos, hnum⟩ := hc h
  obtain ⟨j, hj, hcell⟩ := cellSymbol_of_lt hpos
  refine ⟨⟨hpos, ?_⟩, hnum⟩
  show 0 < (s.cellSymbol d c.position).lengths.length
  rw [hcell s rfl]
  exact (lengths_of_mem_cells h.tables hj).1

theorem beginGap_keeps {b : Prop} {n : Fin 4} {s : State} {d : Descriptor} {rest : List Descriptor} {c : Context}
    (hq : (s.channel n).queue = d :: rest) (hc : FramesOk b s → NextOk b s d (.gap, c)) :
    KeepsFrames b s (beginGap n d c s) := by
  rw [beginGap_eq]
  refine keeps_setChannel rfl (fun h => ?_)
  obtain ⟨hplace, hnum⟩ := hc h
  obtain ⟨-, hgap, -⟩ := head_ranges h hq
  exact Iff.mpr (frameOk_gap rfl hq) ⟨hplace, fun hb => ⟨contextOk_replay (hnum hb) hgap, rfl⟩⟩

theorem enterHeld_none_keeps (b : Prop) (n : Fin 4) (s : State) : KeepsFrames b s (enterHeld n none s) := by
  rw [enterHeld_eq]
  refine KeepsFrames.trans ?_ (sameFrames_setFlag _ _).keeps
  exact keeps_setChannel rfl (fun _ => frameOk_of_noContext rfl)

/-- A hold taken at a boundary keeps the place of the next step. -/
theorem enterHeld_some_keeps {b : Prop} {n : Fin 4} {s : State} {d : Descriptor} {rest : List Descriptor}
    {x : NextStep} {c : Context} (hq : (s.channel n).queue = d :: rest) (hx : x ≠ .finish)
    (hc : FramesOk b s → NextOk b s d (x, c)) :
    KeepsFrames b s (enterHeld n (some { c with phase := 0, remaining := 0 }) s) := by
  rw [enterHeld_eq]
  refine KeepsFrames.trans (keeps_setChannel ?_ (fun h => ?_)) (sameFrames_setFlag _ _).keeps
  · rfl
  have hnext := hc h
  refine Iff.mpr (frameOk_held rfl hq) ?_
  cases x with
  | symbol =>
    obtain ⟨hpos, hnum⟩ := hnext
    exact ⟨.inl hpos, fun hb => ⟨contextOk_replay (hnum hb).1 (Nat.zero_le _), rfl, rfl, fun _ => (hnum hb).2⟩⟩
  | gap =>
    obtain ⟨hplace, hnum⟩ := hnext
    exact ⟨.inr hplace, fun hb => ⟨contextOk_replay (hnum hb) (Nat.zero_le _), rfl, rfl,
      fun hlt => absurd hplace.1 (Nat.ne_of_lt hlt)⟩⟩
  | finish => exact absurd rfl hx

/-- The decision at a symbol boundary keeps the invariant if the next step's place is good. -/
theorem boundary_keeps {b : Prop} {n : Fin 4} {s : State} {d : Descriptor} {rest : List Descriptor}
    {next : NextStep × Context} (hq : (s.channel n).queue = d :: rest) (hc : FramesOk b s → NextOk b s d next) :
    KeepsFrames b s (boundary n d next s) := by
  obtain ⟨x, c⟩ := next
  rcases boundary_cases n d x c s with ⟨o, h, -⟩ | ⟨-, hx, -, h⟩ | ⟨-, rfl, -, h⟩ | ⟨-, rfl, -, h⟩ <;> rw [h]
  · exact frameEnd_keeps b n o c _ s
  · exact enterHeld_some_keeps hq hx hc
  · exact beginSymbol_keeps hq hc
  · exact beginGap_keeps hq hc

/-! ### The next step -/

/-- The end of a repetition: the next one begins at a cell of the slot, and is not above the repeat count (R60). -/
theorem endRepetition_nextOk {b : Prop} {s : State} (h : FramesOk b s) {n : Fin 4} {d : Descriptor}
    {rest : List Descriptor} (hq : (s.channel n).queue = d :: rest) {c : Context} (hc : b → c.Ok d) :
    NextOk b s d (endRepetition d c) := by
  unfold endRepetition
  split
  · trivial
  · next hlast =>
    obtain ⟨hrep, -, hfrom⟩ := head_ranges h hq
    refine ⟨?_, fun hb => ?_⟩
    · show d.repeatFrom.getD 0 < s.frameLength d
      cases hf : d.repeatFrom with
      | none => exact frameLength_pos_of_queued h.tables h.queues (n := n) (by simp [hq])
      | some f => exact hfrom f hf
    · obtain ⟨h1, h2, h3, h4, h5⟩ := hc hb
      have hnot : ¬ (0 < d.repeats ∧ c.repetition = d.repeats) := by
        simp only [isLast, Bool.or_eq_true, Bool.and_eq_true, decide_eq_true_eq, not_or] at hlast
        exact hlast.1
      simp only [Context.Ok, Context.Uncounted, saturate255]
      omega

/-- The end of a symbol: the next cell, the gap behind the last cell, or the end of the repetition (R59, R60). -/
theorem afterSymbol_nextOk {b : Prop} {s : State} (h : FramesOk b s) {n : Fin 4} {d : Descriptor}
    {rest : List Descriptor} (hq : (s.channel n).queue = d :: rest) {c : Context}
    (hc : b → c.Ok d ∧ c.Uncounted d) : NextOk b s d (afterSymbol d (s.frameLength d) c) := by
  have hcounted : b →
      Context.Ok { c with completed := saturate255 (c.completed + 1), position := s.frameLength d } d := by
    intro hb
    obtain ⟨⟨h1, h2, h3, h4, h5⟩, hun⟩ := hc hb
    simp only [Context.Ok, Context.Uncounted, saturate255] at hun ⊢
    omega
  unfold afterSymbol
  split
  · next hpos => exact ⟨hpos, hc⟩
  · simp only
    split
    · next hgap => exact ⟨⟨rfl, hgap⟩, hcounted⟩
    · exact endRepetition_nextOk h hq hcounted

/-! ### What a channel does at a beat event -/

theorem startFrame_keeps (b : Prop) (n : Fin 4) (s : State) : KeepsFrames b s (startFrame n s) := by
  unfold startFrame
  split
  · next d rest hq =>
    refine beginSymbol_keeps hq (fun h => ⟨?_, fun _ => ?_⟩)
    · exact frameLength_pos_of_queued h.tables h.queues (n := n) (by simp [hq])
    · simp only [Context.Ok, Context.Uncounted, Context.start]
      omega
  · exact .refl b s

theorem startHead_keeps (b : Prop) (n : Fin 4) (s : State) : KeepsFrames b s (startHead n s) := by
  unfold startHead
  simp only
  split
  · exact (sameFrames_beatTaken n s).keeps.trans (startFrame_keeps b n _)
  · exact .refl b s

theorem phaseEnd_keeps (b : Prop) (n : Fin 4) (s : State) : KeepsFrames b s (phaseEnd n s) := by
  unfold phaseEnd
  split
  · next c d rest hst hq =>
    have htaken : ((beatTaken n s).channel n).state = .play c ∧ ((beatTaken n s).channel n).queue = d :: rest := by
      simp [hst, hq]
    obtain ⟨hst', hq'⟩ := htaken
    split
    · split
      · next hphase =>
        refine (sameFrames_beatTaken n s).keeps.trans (beginPhase_keeps hq' (fun h => ?_))
        obtain ⟨hplace, hnum⟩ := (frameOk_play hst' hq').mp (h.frame n)
        exact ⟨⟨hplace.1, hphase⟩, hnum⟩
      · refine (sameFrames_beatTaken n s).keeps.trans (boundary_keeps hq' (fun h => ?_))
        obtain ⟨-, hnum⟩ := (frameOk_play hst' hq').mp (h.frame n)
        exact afterSymbol_nextOk h hq' hnum
    · exact .refl b s
  · exact .refl b s

theorem gapEnd_keeps (b : Prop) (n : Fin 4) (s : State) : KeepsFrames b s (gapEnd n s) := by
  unfold gapEnd
  split
  · next c d rest hst hq =>
    have htaken : ((beatTaken n s).channel n).state = .gap c ∧ ((beatTaken n s).channel n).queue = d :: rest := by
      simp [hst, hq]
    obtain ⟨hst', hq'⟩ := htaken
    split
    · refine (sameFrames_beatTaken n s).keeps.trans (boundary_keeps hq' (fun h => ?_))
      obtain ⟨-, hnum⟩ := (frameOk_gap hst' hq').mp (h.frame n)
      exact endRepetition_nextOk h hq' (fun hb => (hnum hb).1)
    · exact .refl b s
  · exact .refl b s

/-- A channel HELD in a frame goes on with the gap or the symbol before which it was held (R70). -/
theorem resumeFrame_keeps {b : Prop} {n : Fin 4} {s : State} {d : Descriptor} {rest : List Descriptor} {c : Context}
    (hst : (s.channel n).state = .held (some c)) (hq : (s.channel n).queue = d :: rest) :
    KeepsFrames b s (if c.position = s.frameLength d then beginGap n d c s else beginSymbol n d c s) := by
  split
  · next hend =>
    refine beginGap_keeps hq (fun h => ?_)
    obtain ⟨hplace, hnum⟩ := (frameOk_held hst hq).mp (h.frame n)
    exact ⟨by omega, fun hb => (hnum hb).1⟩
  · next hcell =>
    refine beginSymbol_keeps hq (fun h => ?_)
    obtain ⟨hplace, hnum⟩ := (frameOk_held hst hq).mp (h.frame n)
    have hlt : c.position < s.frameLength d := by omega
    refine ⟨hlt, fun hb => ?_⟩
    obtain ⟨hok, -, -, huncounted⟩ := hnum hb
    exact ⟨hok, huncounted hlt⟩

theorem resumeTaken_keeps (b : Prop) (n : Fin 4) (s : State) : KeepsFrames b s (resumeTaken n s) := by
  unfold resumeTaken
  simp only
  split
  · have hsame : SameFrames s
        ((beatTaken n s).modChannel n (fun ch => { ch with resumePending := false })) :=
      (sameFrames_beatTaken n s).trans (sameFrames_setChannel rfl rfl)
    split
    · next c d rest hst hq =>
      exact hsame.keeps.trans (resumeFrame_keeps ((hsame.state n).trans hst) ((hsame.queue n).trans hq))
    · split
      · exact hsame.keeps.trans (startFrame_keeps b n _)
      · exact hsame.keeps.trans (keeps_setState_noContext rfl)
    · exact .refl b s
  · exact .refl b s

theorem takeBeat_keeps (b : Prop) (n : Fin 4) (s : State) : KeepsFrames b s (takeBeat n s) := by
  rcases takeBeat_cases n s with h | h | h | h | h <;> rw [h]
  · exact startHead_keeps b n s
  · exact phaseEnd_keeps b n s
  · exact gapEnd_keeps b n s
  · exact resumeTaken_keeps b n s
  · exact .refl b s

/-- Setting the carrier-absent flag moves no place and no number. -/
theorem markAbsent_keeps (b : Prop) (n : Fin 4) (s : State) : KeepsFrames b s (markAbsent n s) := by
  rcases markAbsent_cases n s with ⟨c, hst, h⟩ | h <;> rw [h]
  · refine keeps_setChannel rfl (fun hs => ?_)
    obtain ⟨d, rest, hq⟩ := List.exists_cons_of_ne_nil
      (queue_ne_nil_of_frameOk (hs.frame n) (by simp [hst, ChannelState.context]))
    exact Iff.mpr (frameOk_play rfl hq) ((frameOk_play hst hq).mp (hs.frame n))
  · exact .refl b s

/-- A beat event met counts the beats remaining down, and moves nothing else of a frame. -/
theorem beat_frameOk {b : Prop} {s : State} {ch : Channel} (h : FrameOk b s ch) : FrameOk b s ch.beat := by
  cases hst : ch.state with
  | idle => exact frameOk_of_noContext (by simp [Channel.beat, hst, ChannelState.context])
  | logwait r => exact frameOk_of_noContext (by simp [Channel.beat, hst, ChannelState.context])
  | held c =>
    have heq : ch.beat = { ch with beatDue := ch.resumePending } := by simp [Channel.beat, hst]
    rw [heq]
    exact frameOk_transfer h rfl (fun _ => rfl) (fun _ _ => ⟨rfl, fun _ _ => rfl⟩)
  | play c =>
    obtain ⟨d, rest, hq⟩ := List.exists_cons_of_ne_nil
      (queue_ne_nil_of_frameOk h (by simp [hst, ChannelState.context]))
    obtain ⟨hplace, hnum⟩ := (frameOk_play hst hq).mp h
    have hst' : ch.beat.state = .play { c with remaining := c.remaining - 1 } := by simp [Channel.beat, hst]
    have hq' : ch.beat.queue = d :: rest := by simp [Channel.beat, hst, hq]
    rw [frameOk_play hst' hq']
    refine ⟨hplace, fun hb => ⟨contextOk_replay (hnum hb).1 ?_, (hnum hb).2⟩⟩
    obtain ⟨-, -, -, -, hrem⟩ := (hnum hb).1
    omega
  | gap c =>
    obtain ⟨d, rest, hq⟩ := List.exists_cons_of_ne_nil
      (queue_ne_nil_of_frameOk h (by simp [hst, ChannelState.context]))
    obtain ⟨hplace, hnum⟩ := (frameOk_gap hst hq).mp h
    have hst' : ch.beat.state = .gap { c with remaining := c.remaining - 1 } := by simp [Channel.beat, hst]
    have hq' : ch.beat.queue = d :: rest := by simp [Channel.beat, hst, hq]
    rw [frameOk_gap hst' hq']
    refine ⟨hplace, fun hb => ⟨contextOk_replay (hnum hb).1 ?_, (hnum hb).2⟩⟩
    obtain ⟨-, -, -, -, hrem⟩ := (hnum hb).1
    omega

theorem beat_queue (ch : Channel) : ch.beat.queue = ch.queue := by
  unfold Channel.beat
  split <;> rfl

/-! ### Host requests -/

theorem cmdHold_keeps {b : Prop} {s t : State} (h : cmdHold s = .ok t) : KeepsFrames b s t := by
  unfold cmdHold at h
  split at h
  · cases h
  · next n _ =>
    split at h
    · cases h
    · split at h
      · cases h
      · cases h
        exact enterHeld_none_keeps b n s
    · split at h
      · cases h
      · cases h
        exact keeps_setChannel_same rfl rfl

theorem cmdResume_keeps {b : Prop} {s t : State} (h : cmdResume s = .ok t) : KeepsFrames b s t := by
  unfold cmdResume at h
  split at h
  · cases h
  · split at h
    · cases h
      exact keeps_setChannel_same rfl rfl
    · split at h
      · cases h
        exact keeps_setChannel_same rfl rfl
      · cases h

/-- ABORT ends the frame at once, or leaves a flag for the symbol's end. -/
theorem cmdAbort_cases {s t : State} (h : cmdAbort s = .ok t) :
    (∃ n c, t = frameEnd n .aborted c (s.channel n).watermark s)
      ∨ ∃ n, t = s.setChannel n { s.channel n with abortPending := true } := by
  unfold cmdAbort at h
  split at h
  · cases h
  · next n _ =>
    simp only at h
    split at h
    · cases h
    · split at h
      · cases h
      · cases h
      · cases h
      · next c _ =>
        split at h
        · cases h
        · cases h
          exact .inl ⟨n, c, rfl⟩
      all_goals
        split at h
        · split at h
          · cases h
          · cases h
            exact .inr ⟨n, rfl⟩
        · cases h
          exact .inl ⟨n, _, rfl⟩

theorem cmdAbort_keeps {b : Prop} {s t : State} (h : cmdAbort s = .ok t) : KeepsFrames b s t := by
  rcases cmdAbort_cases h with ⟨n, c, rfl⟩ | ⟨n, rfl⟩
  · exact frameEnd_keeps b n _ c _ s
  · exact keeps_setChannel_same rfl rfl

/-- The last-repetition flag is no part of a frame's place, and none of its numbers. -/
theorem released_frameOk {b : Prop} {s : State} {ch : Channel} (h : FrameOk b s ch) :
    FrameOk b s { ch with state := ch.state.released } := by
  cases hst : ch.state with
  | idle => exact frameOk_of_noContext rfl
  | logwait r => exact frameOk_of_noContext rfl
  | play c =>
    obtain ⟨d, rest, hq⟩ := List.exists_cons_of_ne_nil
      (queue_ne_nil_of_frameOk h (by simp [hst, ChannelState.context]))
    exact Iff.mpr (frameOk_play rfl hq) ((frameOk_play hst hq).mp h)
  | gap c =>
    obtain ⟨d, rest, hq⟩ := List.exists_cons_of_ne_nil
      (queue_ne_nil_of_frameOk h (by simp [hst, ChannelState.context]))
    exact Iff.mpr (frameOk_gap rfl hq) ((frameOk_gap hst hq).mp h)
  | held c =>
    cases c with
    | none => exact frameOk_of_noContext rfl
    | some c =>
      obtain ⟨d, rest, hq⟩ := List.exists_cons_of_ne_nil
        (queue_ne_nil_of_frameOk h (by simp [hst, ChannelState.context]))
      exact Iff.mpr (frameOk_held rfl hq) ((frameOk_held hst hq).mp h)

theorem cmdRelease_keeps {b : Prop} {s t : State} (h : cmdRelease s = .ok t) : KeepsFrames b s t := by
  unfold cmdRelease at h
  split at h
  · cases h
  · next n _ =>
    split at h
    · split at h
      · cases h
      · cases h
        exact keeps_setChannel rfl (fun hs => released_frameOk (hs.frame n))
    · cases h

/-! ### TXn_CTRL -/

theorem clearEnable_keeps (b : Prop) (n : Fin 4) (w : Nat) (s : State) : KeepsFrames b s (clearEnable n w s) := by
  have hsame : SameFrames s (s.modChannel n (fun ch =>
      { ch with holdPending := false, abortPending := false, resumePending := false, beatDue := false })) :=
    sameFrames_setChannel rfl rfl
  unfold clearEnable
  simp only
  split
  · exact hsame.keeps.trans (frameEnd_keeps b n _ _ _ _)
  · exact hsame.keeps.trans (frameEnd_keeps b n _ _ _ _)
  · exact hsame.keeps.trans (frameEnd_keeps b n _ _ _ _)
  · exact hsame.keeps.trans (keeps_setState_noContext rfl)
  · exact hsame.keeps
  · exact hsame.keeps

theorem writeTxCtrl_keeps (b : Prop) (n : Fin 4) (en : Bool) (w : BitVec 3) (s : State) :
    KeepsFrames b s (writeTxCtrl n en w s) := by
  have hsame : SameFrames s (s.modChannel n (fun ch => { ch with enabled := en, watermark := storedWatermark w })) :=
    sameFrames_setChannel rfl rfl
  unfold writeTxCtrl
  simp only
  split
  · exact hsame.keeps.trans (clearEnable_keeps b n _ _)
  · exact hsame.keeps

end Sys2Proof.Proofs
end

section
/-! SUPPORT. What the rows of capture units, carriers, pins and port leave of records and frames. -/

namespace Sys2Proof.Proofs

open Sys2Proof Sys2Proof.Machine Sys2Proof.Machine.Laws

/-! ### Capture units -/

/-- A unit is replaced by one with the same decode set. -/
theorem sameFrames_setUnit {s : State} {u : Fin 2} {x : CaptureUnit}
    (h : x.decodeSet = (s.captureUnit u).decodeSet) : SameFrames s (s.setUnit u x) := by
  refine ⟨rfl, rfl, fun _ => rfl, fun _ => rfl, fun k => ?_⟩
  rw [setUnit_captureUnit]
  split
  · next e => rw [e, h]
  · rfl

theorem sameFrames_setCapture (u : Fin 2) (x : CaptureState) (s : State) : SameFrames s (s.setCapture u x) :=
  sameFrames_setUnit rfl

theorem sameFrames_setPend (pend : Vector Word 2) (s : State) : SameFrames s { s with pend := pend } :=
  .of_eq rfl rfl rfl rfl

theorem sameFrames_offerRecord (u : Fin 2) (r : CaptureRecord) (s : State) : SameFrames s (offerRecord u r s) := by
  obtain ⟨log, pend, h⟩ := offerRecord_frame u r s
  rw [h]
  exact (sameFrames_setUnit (by rfl)).trans (sameFrames_setPend pend _)

theorem sameFrames_decodePhase (u : Fin 2) (p : Phase) (s : State) : SameFrames s (decodePhase u p s) := by
  unfold decodePhase
  obtain ⟨log, pend, h⟩ := keepWork_frame u (feed s (s.captureUnit u).decodeSet [{ phase := p, isOpen := false }]
    (s.captureUnit u).work) s
  rw [h]
  exact (sameFrames_setUnit (by rfl)).trans (sameFrames_setPend pend _)

theorem sameFrames_closePhase (u : Fin 2) (p : Phase) (s : State) : SameFrames s (closePhase u p s) := by
  unfold closePhase
  split
  · exact sameFrames_offerRecord u _ s
  · exact sameFrames_decodePhase u p s

theorem sameFrames_acceptedEdge (u : Fin 2) (s : State) : SameFrames s (acceptedEdge u s) := by
  unfold acceptedEdge
  simp only
  split
  · exact .refl s
  · exact .refl s
  · split
    · split <;> exact sameFrames_setCapture u _ s
    · exact .refl s
  · split
    · exact (sameFrames_setCapture u _ s).trans (sameFrames_closePhase u _ _)
    · exact .refl s
  · split
    · split <;> exact sameFrames_setCapture u _ s
    · exact .refl s

theorem sameFrames_flushUnit (u : Fin 2) (o : Option Phase) (s : State) : SameFrames s (flushUnit u o s) := by
  obtain ⟨pl, held, log, pend, h⟩ := flushUnit_frame u o s
  rw [h]
  exact (sameFrames_setUnit (by rfl)).trans (sameFrames_setPend pend _)

theorem sameFrames_endFrame (u : Fin 2) (o : Option Phase) (phases : Nat) (stuck cut : Bool) (flag : Option Flag)
    (next : CaptureState) (s : State) : SameFrames s (endFrame u o phases stuck cut flag next s) := by
  have hoffer : SameFrames s
      (offerRecord u (.frameEnd (s.captureUnit u).frameNumber phases stuck cut) (flushUnit u o s)) :=
    (sameFrames_flushUnit u o s).trans (sameFrames_offerRecord u _ _)
  unfold endFrame
  cases flag with
  | none => exact hoffer.trans (sameFrames_setUnit rfl)
  | some f => exact (hoffer.trans (sameFrames_setFlag f _)).trans (sameFrames_setUnit rfl)

theorem sameFrames_idleTimeout (u : Fin 2) (s : State) : SameFrames s (idleTimeout u s) := by
  unfold idleTimeout
  split
  · split
    · exact sameFrames_endFrame u _ _ _ _ _ _ s
    · exact .refl s
  · exact .refl s

theorem sameFrames_stuckMark (u : Fin 2) (s : State) : SameFrames s (stuckMark u s) := by
  unfold stuckMark
  split
  · split
    · exact sameFrames_endFrame u _ _ _ _ _ _ s
    · exact .refl s
  · exact .refl s

theorem sameFrames_takeSample (u : Fin 2) (s : State) : SameFrames s (takeSample u s) := by
  unfold takeSample
  split
  · exact sameFrames_acceptedEdge u s
  · split
    · exact sameFrames_idleTimeout u s
    · exact sameFrames_stuckMark u s

theorem sameFrames_capSetup {s t : State} (h : cmdCapSetup s = .ok t) : SameFrames s t := by
  unfold cmdCapSetup at h
  split at h
  · cases h
  · split at h
    · cases h
    · split at h
      · cases h
      · cases h
        exact sameFrames_setUnit rfl

theorem sameFrames_capStart {s t : State} (h : cmdCapStart s = .ok t) : SameFrames s t := by
  unfold cmdCapStart at h
  split at h
  · cases h
  · split at h
    · cases h
    · cases h
      exact sameFrames_setCapture _ _ s

theorem sameFrames_capStop {s t : State} (h : cmdCapStop s = .ok t) : SameFrames s t := by
  unfold cmdCapStop at h
  split at h
  · cases h
  · split at h
    · cases h
    · cases h
      exact sameFrames_setCapture _ _ s
    · cases h
      exact sameFrames_setCapture _ _ s
    · cases h
      exact sameFrames_endFrame _ _ _ _ _ _ _ s

theorem sameFrames_capPop {s t : State} (h : cmdCapPop s = .ok t) : SameFrames s t := by
  unfold cmdCapPop at h
  split at h
  · cases h
  · next u _ =>
    split at h
    · cases h
    · next r rest _ =>
      cases h
      have hlog : SameFrames s (s.modUnit u (fun c => { c with log := rest })) := sameFrames_setUnit rfl
      exact hlog.trans (.of_eq rfl rfl rfl rfl)

/-! ### Carriers, pins, events and port -/

theorem sameFrames_modCarrier (g : Fin 2) (f : Carrier → Carrier) (s : State) : SameFrames s (s.modCarrier g f) :=
  .of_eq rfl rfl rfl rfl

theorem sameFrames_carrierPeriodEnd (g : Fin 2) (s : State) : SameFrames s (carrierPeriodEnd g s) := by
  unfold carrierPeriodEnd
  split
  · exact sameFrames_modCarrier g _ s
  · exact .refl s

theorem sameFrames_carrierHighTimeEnd (g : Fin 2) (s : State) : SameFrames s (carrierHighTimeEnd g s) := by
  unfold carrierHighTimeEnd
  split
  · exact sameFrames_modCarrier g _ s
  · exact .refl s

theorem markAllAbsent_keeps (b : Prop) (s : State) : KeepsFrames b s (markAllAbsent s) :=
  (markAbsent_keeps b 0 s).trans
    ((markAbsent_keeps b 1 _).trans ((markAbsent_keeps b 2 _).trans (markAbsent_keeps b 3 _)))

theorem writeCarrierCtrl_keeps (b : Prop) (g : Fin 2) (en : Bool) (s : State) :
    KeepsFrames b s (writeCarrierCtrl g en s) := by
  unfold writeCarrierCtrl
  split
  · exact (sameFrames_modCarrier g _ s).keeps
  · split
    · exact (sameFrames_modCarrier g _ s).keeps.trans (markAllAbsent_keeps b _)
    · exact .refl b s

theorem sameFrames_pinRoute {s t : State} (h : cmdPinRoute s = .ok t) : SameFrames s t := by
  unfold cmdPinRoute at h
  split at h
  · cases h
  · simp only at h
    split at h
    · cases h
    · split at h
      · cases h
      · cases h
        exact .of_eq rfl rfl rfl rfl

theorem sameFrames_setPort (p : Port) (s : State) : SameFrames s { s with port := p } :=
  .of_eq rfl rfl rfl rfl

theorem sameFrames_setResult (code : BitVec 8) (r : Result) (s : State) : SameFrames s (s.setResult code r) :=
  .of_eq rfl rfl rfl rfl

theorem sameFrames_loadSnapshot (s : State) : SameFrames s (loadSnapshot s) :=
  .of_eq rfl rfl rfl rfl

theorem sameFrames_frameBegin (s : State) : SameFrames s (frameBegin s) := by
  unfold frameBegin
  split
  · exact .refl s
  · simp only
    split <;> exact .of_eq rfl rfl rfl rfl

theorem sameFrames_headerDone (byte : BitVec 8) (s : State) : SameFrames s (headerDone byte s) := by
  unfold headerDone
  split
  · simp only
    split
    · exact (sameFrames_setPort _ s).trans (sameFrames_loadSnapshot _)
    · exact sameFrames_setPort _ s
  · exact .refl s

theorem sameFrames_selRise (s : State) : SameFrames s (selRise s) :=
  .of_eq rfl rfl rfl rfl

theorem sameFrames_readWordDone (s : State) : SameFrames s (readWordDone s) := by
  unfold readWordDone
  split
  · exact (sameFrames_setPort _ s).trans (sameFrames_loadSnapshot _)
  · exact .refl s

theorem sameFrames_readSymbol {s t : State} (h : cmdReadSymbol s = .ok t) : SameFrames s t := by
  unfold cmdReadSymbol at h
  split at h
  · cases h
  · cases h
    exact .of_eq rfl rfl rfl rfl

theorem sameFrames_readSeq {s t : State} (h : cmdReadSeq s = .ok t) : SameFrames s t := by
  unfold cmdReadSeq at h
  split at h
  · cases h
  · split at h
    · cases h
    · cases h
      exact .of_eq rfl rfl rfl rfl

/-! ### The clock -/

theorem sameFrames_dropBeat (s : State) : SameFrames s (dropBeat s) :=
  ⟨rfl, rfl, fun n => by simp, fun n => by simp, fun _ => rfl⟩

theorem sameFrames_setTimebase {s t : State} (h : cmdSetTimebase s = .ok t) : SameFrames s t := by
  unfold cmdSetTimebase at h
  split at h
  · cases h
  · split at h
    · cases h
    · cases h
      exact (sameFrames_dropBeat s).trans (.of_eq rfl rfl rfl rfl)

theorem sameFrames_freeCount (k : Nat) (s : State) : SameFrames s { s with freeCount := k } :=
  .of_eq rfl rfl rfl rfl

theorem settleOne_keeps (b : Prop) (s : State) : KeepsFrames b s (settleOne s) := by
  rcases settleOne_cases s with ⟨u, h⟩ | ⟨n, h⟩ | ⟨n, h⟩ | h <;> rw [h]
  · exact (sameFrames_takeSample u s).keeps
  · exact takeBeat_keeps b n s
  · exact (sameFrames_freeCount _ s).keeps.trans (takeBeat_keeps b n _)
  · exact .refl b s

theorem settle_keeps (b : Prop) (s : State) : KeepsFrames b s (settle s) :=
  settleUpTo_induct (P := fun t => KeepsFrames b s t) (fun t h => h.trans (settleOne_keeps b t)) 8 s (.refl b s)

/-- Every channel meets a beat event, and every unit samples. -/
theorem beatEvent_keeps (b : Prop) (outside : Outside) (s : State) : KeepsFrames b s (beatEvent outside s) := by
  refine (settle_keeps b s).trans ⟨rfl, fun h => ?_⟩
  refine framesOk_of_same_queues h rfl rfl (fun n => ?_) (fun u => ?_) (fun n => ?_)
  · rw [beatEvent_channel, beat_queue]
  · rw [beatEvent_captureUnit]
    rfl
  · rw [beatEvent_channel]
    exact beat_frameOk (h.frame n)

theorem clockPeriod_keeps (b : Prop) (s : State) : KeepsFrames b s (clockPeriod s) := by
  have htick : ∀ t : State, SameFrames t ((t.modCarrier 0 .tick).modCarrier 1 .tick) := fun t =>
    (sameFrames_modCarrier 0 .tick t).trans (sameFrames_modCarrier 1 .tick _)
  unfold clockPeriod
  refine KeepsFrames.trans ?_ (htick _).keeps
  split
  · exact (sameFrames_freeCount _ s).keeps.trans (beatEvent_keeps b _ _)
  · exact (sameFrames_dropBeat s).keeps.trans
      (SameFrames.keeps (.of_eq rfl rfl rfl rfl))

/-! ### Resets -/

/-- An engine reset empties every queue and every frame count, and leaves records, cells and decode sets (R184). -/
theorem engineReset_keeps (b : Prop) (s : State) : KeepsFrames b s (engineReset s) := by
  have hslot : ∀ i, (engineReset s).slot i = { s.slot i with frames := 0 } := fun i => by
    simp [engineReset, State.slot]
  have hchan : ∀ n, (engineReset s).channel n = (s.channel n).engineReset := fun n => by
    simp [engineReset, State.channel]
  have hqueue : ∀ n, ((engineReset s).channel n).queue = [] := fun n => by
    rw [hchan]
    rfl
  refine ⟨rfl, fun h => framesOk_of_same_cells h rfl (fun i => by rw [hslot]) (fun i => by rw [hslot])
    (fun u => by simp [engineReset, State.captureUnit, CaptureUnit.engineReset])
    ⟨fun n => by simp [hqueue], fun i => by simp [hslot, descriptorsNaming_eq, hqueue],
      fun i hi => by simp [hslot] at hi, fun n d hd => by simp [hqueue] at hd⟩
    (fun n => by rw [hchan]; exact frameOk_of_noContext rfl)⟩

/-- Right after a full reset the tables are empty, no queue names a slot, and no frame is in progress. -/
theorem resetValues_framesOk (b : Prop) (s : State) : FramesOk b (resetValues s) := by
  have hsym : ∀ j, (resetValues s).symbol j = Symbol.reset := fun j => by
    simp [resetValues, State.reset, State.symbol]
  have hslot : ∀ i, (resetValues s).slot i = Slot.reset := fun i => by
    simp [resetValues, State.reset, State.slot]
  have hchan : ∀ n, (resetValues s).channel n = Channel.reset := fun n => by
    simp [resetValues, State.reset, State.channel]
  have hunit : ∀ u, (resetValues s).captureUnit u = CaptureUnit.reset := fun u => by
    simp [resetValues, State.reset, State.captureUnit]
  refine ⟨⟨fun j => ?_, fun i => ?_, fun u => ?_, fun j => ?_, fun j hj => ?_⟩,
    ⟨fun n => ?_, fun i => ?_, fun i hi => ?_, fun n d hd => ?_⟩, fun n => ?_⟩
  · rw [hsym]
    rfl
  · simp [hslot, Slot.Ok, Slot.reset]
  · simp [hunit, CaptureUnit.reset]
  · simp [hsym, cellsNaming_eq, positionsNaming_eq, hslot, hunit, Symbol.reset, Slot.reset, CaptureUnit.reset]
  · simp [hsym, Symbol.reset] at hj
  · simp [hchan, Channel.reset]
  · simp [hslot, descriptorsNaming_eq, hchan, Slot.reset, Channel.reset]
  · simp [hslot, Slot.reset] at hi
  · simp [hchan, Channel.reset] at hd
  · rw [hchan]
    exact frameOk_of_noContext rfl

end Sys2Proof.Proofs
end

section
/-! SUPPORT. What the commands of the Symbol Table, the Sequence Store and the decode sets keep. -/

namespace Sys2Proof.Proofs

open Sys2Proof Sys2Proof.Machine Sys2Proof.Machine.Laws

/-- A symbol that something names in s has the same record in t, but for its count; and the invariant holds in t where s
has it. -/
structure KeepsNamed (b : Prop) (s t : State) : Prop where
  records : ∀ j, 0 < (s.symbol j).refs → t.symbol j = { s.symbol j with refs := (t.symbol j).refs }
  frames : FramesOk b s → FramesOk b t

theorem KeepsFrames.named {b : Prop} {s t : State} (h : KeepsFrames b s t) : KeepsNamed b s t :=
  ⟨fun j _ => by simp only [State.symbol, h.symbols], h.frames⟩

theorem SameFrames.named {b : Prop} {s t : State} (h : SameFrames s t) : KeepsNamed b s t := h.keeps.named

/-- What follows a change without touching a record does not matter. -/
theorem KeepsNamed.trans_keeps {b : Prop} {s t u : State} (h : KeepsNamed b s t) (k : KeepsFrames b t u) :
    KeepsNamed b s u := by
  have hsym : ∀ j, u.symbol j = t.symbol j := fun j => by simp only [State.symbol, k.symbols]
  exact ⟨fun j hj => by rw [hsym]; exact h.records j hj, fun hs => k.frames (h.frames hs)⟩

/-! ### The Symbol Table -/

/-- A record that nothing names is replaced by one that R1 allows, with the same count. -/
theorem tablesOk_setSymbol {s : State} (h : TablesOk s) {i : Fin 64} {x : Symbol} (hx : x.Ok) (hrefs : x.refs = 0)
    (hzero : (s.symbol i).refs = 0) : TablesOk (s.setSymbol i x) := by
  obtain ⟨hok, hslot, hset, hcount, hdef⟩ := h
  refine ⟨fun j => ?_, hslot, hset, fun j => ?_, fun j hj => ?_⟩
  · rw [setSymbol_symbol]
    split
    · exact hx
    · exact hok j
  · have hsame : ((s.setSymbol i x).symbol j).refs = (s.symbol j).refs := by
      rw [setSymbol_symbol]
      split
      · next e => rw [e, hrefs, hzero]
      · rfl
    rw [hsame]
    exact hcount j
  · rw [setSymbol_symbol] at hj ⊢
    split at hj
    · omega
    · next hne =>
      rw [if_neg hne]
      exact hdef j hj

/-- A record that nothing names is replaced: no named record changes, and no frame plays it. -/
theorem setSymbol_keepsNamed {b : Prop} {s : State} {i : Fin 64} {x : Symbol} (hx : x.Ok) (hrefs : x.refs = 0)
    (hzero : (s.symbol i).refs = 0) : KeepsNamed b s (s.setSymbol i x) := by
  have hother : ∀ j, 0 < (s.symbol j).refs → (s.setSymbol i x).symbol j = s.symbol j := by
    intro j hj
    have hne : j ≠ i := fun e => by rw [e] at hj; omega
    rw [setSymbol_symbol, if_neg hne]
  refine ⟨fun j hj => by rw [hother j hj], fun h => ?_⟩
  exact framesOk_of_named h (tablesOk_setSymbol h.tables hx hrefs hzero) rfl (fun _ => .inl rfl)
    (fun j hj => by rw [hother j hj])

/-- The record that DEFINE_SYMBOL writes after its checks is one that R1 allows. -/
theorem definedSymbol_ok {s : State} (h : defineArgsBad s = false) (refs : Nat) : (definedSymbol s refs).Ok := by
  simp only [defineArgsBad, Bool.or_eq_false_iff, decide_eq_false_iff_not, List.any_eq_false] at h
  obtain ⟨⟨⟨⟨⟨-, hzero⟩, hmax⟩, htol⟩, -⟩, hwords⟩ := h
  simp only [Symbol.Ok, definedSymbol, List.length_map, List.mem_map, forall_exists_index, and_imp,
    forall_apply_eq_imp_iff₂]
  have hlen : (s.stageWords (s.arg 2).toNat).length = (s.arg 2).toNat := by
    simp only [State.stageWords, List.length_take, Vector.length_toList]
    omega
  refine ⟨by omega, by omega, fun w hw => ?_, by omega⟩
  have hne : w ≠ 0 := by simpa using hwords w hw
  have hpos : w.toNat ≠ 0 := fun e => hne (BitVec.eq_of_toNat_eq e)
  exact ⟨Nat.pos_of_ne_zero hpos, Nat.le_of_lt_succ w.isLt⟩

theorem cmdDefineSymbol_keeps {b : Prop} {s t : State} (h : cmdDefineSymbol s = .ok t) : KeepsNamed b s t := by
  unfold cmdDefineSymbol at h
  split at h
  · cases h
  · split at h
    · cases h
    · next hargs =>
      split at h
      · cases h
      · next hrefs =>
        cases h
        have hzero := Nat.eq_zero_of_not_pos hrefs
        exact setSymbol_keepsNamed (definedSymbol_ok (by simpa using hargs) _) hzero hzero

theorem cmdClearSymbol_keeps {b : Prop} {s t : State} (h : cmdClearSymbol s = .ok t) : KeepsNamed b s t := by
  unfold cmdClearSymbol at h
  split at h
  · cases h
  · split at h
    · cases h
    · split at h
      · cases h
      · next hrefs =>
        cases h
        have hzero := Nat.eq_zero_of_not_pos hrefs
        refine setSymbol_keepsNamed ?_ hzero hzero
        rw [hzero]
        rfl

/-! ### The Sequence Store -/

/-- A symbol's count is at least the cells of one slot that name it. -/
theorem count_cells_le_refs {s : State} (h : TablesOk s) (i : Fin 32) (j : Fin 64) :
    (s.slot i).cells.count j ≤ (s.symbol j).refs := by
  obtain ⟨-, -, -, hcount, -⟩ := h
  rw [hcount j]
  exact Nat.le_add_right_of_le (count_le_cellsNaming s i j)

/-- A slot that no descriptor names is replaced, and counts follow its cells: the records move in their counts alone, to
the number of names, and no frame plays the slot. -/
theorem setSlot_keepsNamed {b : Prop} {s t : State} {i : Fin 32} {x : Slot}
    (hsym : ∀ j, t.symbol j = { s.symbol j with refs := (t.symbol j).refs })
    (hslotT : ∀ k, t.slot k = if k = i then x else s.slot k) (hunits : t.units = s.units)
    (hch : t.channels = s.channels) (hstate : (s.slot i).state ≠ .sealed ∨ (s.slot i).frames = 0)
    (hframes : x.frames = (s.slot i).frames) (hx : TablesOk s → x.Ok)
    (hrefs : TablesOk s → ∀ j,
      (t.symbol j).refs + (s.slot i).cells.count j = (s.symbol j).refs + x.cells.count j)
    (hdef : ∀ j ∈ x.cells, j ∈ (s.slot i).cells ∨ (s.symbol j).state = .defined) : KeepsNamed b s t := by
  refine ⟨fun j _ => hsym j, fun h => ?_⟩
  obtain ⟨-, hslot, hset, hcount, hnamed⟩ := h.tables
  have hunitT : ∀ u, t.captureUnit u = s.captureUnit u := fun u => by simp only [State.captureUnit, hunits]
  have hunposted : (s.slot i).frames = 0 := by
    obtain ⟨-, -, hsealed, -⟩ := h.queues
    rcases hstate with hst | hst
    · exact Nat.eq_zero_of_not_pos (fun hpos => hst (hsealed i hpos))
    · exact hst
  have htables : TablesOk t := by
    refine tablesOk_of_recount h.tables hsym (fun k => ?_) (fun u => by rw [hunitT]; exact hset u) (fun j => ?_)
      (fun j hj => ?_)
    · rw [hslotT]
      split
      · exact hx h.tables
      · exact hslot k
    · have hmoved := cellsNaming_setSlot i x s j
      have hcells : t.cellsNaming j = (s.setSlot i x).cellsNaming j :=
        cellsNaming_congr (fun k => by rw [hslotT, setSlot_slot]) j
      have hpos : t.positionsNaming j = s.positionsNaming j := positionsNaming_congr (fun u => by rw [hunitT]) j
      have := hrefs h.tables j
      have := hcount j
      omega
    · by_cases hold : 0 < (s.symbol j).refs
      · exact hnamed j hold
      · have := hrefs h.tables j
        have hnew : 0 < x.cells.count j := by omega
        rcases hdef j (List.count_pos_iff.mp hnew) with hmem | hst
        · exact absurd (refs_pos_of_mem_cells h.tables hmem) hold
        · exact hst
  refine framesOk_of_named h htables hch (fun k => ?_) (fun j _ => by rw [hsym j])
  rw [hslotT]
  split
  · next e => exact .inr ⟨by rw [e, hunposted], by rw [hframes, hunposted]⟩
  · exact .inl rfl

theorem cmdOpenSeq_keeps {b : Prop} {s t : State} (h : cmdOpenSeq s = .ok t) : KeepsNamed b s t := by
  unfold cmdOpenSeq at h
  split at h
  · cases h
  · next i _ =>
    split at h
    · cases h
    · next hfree =>
      cases h
      have hst : (s.slot i).state = .free := by simpa using hfree
      refine setSlot_keepsNamed (i := i) (x := { s.slot i with state := .opened, cells := [] }) (fun _ => rfl)
        (setSlot_slot i _ s) rfl rfl (.inl (by simp [hst])) rfl (fun _ => by simp [Slot.Ok]) (fun ht j => ?_) (by simp)
      obtain ⟨-, hslot, -⟩ := ht
      obtain ⟨-, hfreeCells, -⟩ := hslot i
      have hempty := hfreeCells hst
      simp [hempty]

theorem cmdSealSeq_keeps {b : Prop} {s t : State} (h : cmdSealSeq s = .ok t) : KeepsNamed b s t := by
  unfold cmdSealSeq at h
  split at h
  · cases h
  · next i _ =>
    split at h
    · cases h
    · next hopened =>
      split at h
      · cases h
      · next hcells =>
        cases h
        have hst : (s.slot i).state = .opened := by simpa using hopened
        refine setSlot_keepsNamed (i := i) (x := { s.slot i with state := .sealed }) (fun _ => rfl)
          (setSlot_slot i _ s) rfl rfl (.inl (by simp [hst])) rfl (fun ht => ?_) (fun _ j => rfl) (fun j hj => .inl hj)
        obtain ⟨-, hslot, -⟩ := ht
        exact ⟨(hslot i).1, by simp, fun _ => hcells⟩

/-- A batch of STAGE words is no longer than its count. -/
theorem length_symbolIndices_stageWords (s : State) (c : Nat) :
    (symbolIndices (s.stageWords c)).length ≤ c ∧ (symbolIndices (s.stageWords c)).length ≤ 12 := by
  have h1 := List.length_filterMap_le (index? 64) (s.stageWords c)
  have h2 : (s.stageWords c).length = min c 12 := by simp [State.stageWords]
  simp only [symbolIndices]
  omega

/-- A list that passes the NOT_DEFINED check names DEFINED symbols alone. -/
theorem defined_of_none_empty {s : State} {l : List (Fin 64)}
    (h : ¬ l.any (fun j => (s.symbol j).state = .empty) = true) : ∀ j ∈ l, (s.symbol j).state = .defined := by
  intro j hj
  simp only [List.any_eq_true, decide_eq_true_eq, not_exists, not_and] at h
  cases hs : (s.symbol j).state with
  | empty => exact absurd hs (h j hj)
  | defined => rfl

theorem cmdAppendSeq_keeps {b : Prop} {s t : State} (h : cmdAppendSeq s = .ok t) : KeepsNamed b s t := by
  unfold cmdAppendSeq at h
  split at h
  · cases h
  · next i _ =>
    simp only at h
    split at h
    · cases h
    · next hopened =>
      split at h
      · cases h
      · split at h
        · cases h
        · next hdefined =>
          split at h
          · cases h
          · next hroom =>
            cases h
            have hst : (s.slot i).state = .opened := by simpa using hopened
            have hlen := (length_symbolIndices_stageWords s (s.arg 1).toNat).1
            generalize symbolIndices (s.stageWords (s.arg 1).toNat) = batch at *
            refine setSlot_keepsNamed (i := i) (x := { s.slot i with cells := (s.slot i).cells ++ batch })
              (fun j => by simp) (fun k => by simp) (by simp [raiseRefs_eq, State.setSlot])
              (by simp [raiseRefs_eq, State.setSlot]) (.inl (by simp [hst])) rfl (fun _ => ?_)
              (fun _ j => ?_) (fun j hj => ?_)
            · simp only [Slot.Ok, hst, List.length_append]
              exact ⟨by omega, by simp, by simp⟩
            · simp only [raiseRefs_symbol, setSlot_symbol, List.count_append]
              omega
            · exact (List.mem_append.mp hj).imp_right (defined_of_none_empty hdefined j)

/-- A slot that no descriptor names is emptied, and its cells leave the counts (R10). -/
theorem emptySlot_keeps {b : Prop} {s : State} {i : Fin 32}
    (hstate : (s.slot i).state ≠ .sealed ∨ (s.slot i).frames = 0) : KeepsNamed b s (emptySlot i s) := by
  refine setSlot_keepsNamed (i := i) (x := { s.slot i with state := .free, cells := [] })
    (fun j => by simp [emptySlot]) (fun k => by simp [emptySlot]) (by simp [emptySlot, lowerRefs_eq, State.setSlot])
    (by simp [emptySlot, lowerRefs_eq, State.setSlot]) hstate rfl (fun _ => by simp [Slot.Ok]) (fun ht j => ?_) (by simp)
  have hle := count_cells_le_refs ht i j
  simp only [emptySlot, lowerRefs_symbol, setSlot_symbol, List.count_nil]
  omega

theorem cmdDiscardSeq_keeps {b : Prop} {s t : State} (h : cmdDiscardSeq s = .ok t) : KeepsNamed b s t := by
  unfold cmdDiscardSeq at h
  split at h
  · cases h
  · next i _ =>
    split at h
    · cases h
    · next hopened =>
      cases h
      have hst : (s.slot i).state = .opened := by simpa using hopened
      exact emptySlot_keeps (.inl (by simp [hst]))

theorem cmdFreeSeq_keeps {b : Prop} {s t : State} (h : cmdFreeSeq s = .ok t) : KeepsNamed b s t := by
  unfold cmdFreeSeq at h
  split at h
  · cases h
  · split at h
    · cases h
    · split at h
      · cases h
      · next hframes =>
        cases h
        exact emptySlot_keeps (.inr (Nat.eq_zero_of_not_pos hframes))

/-! ### Decode sets -/

/-- A symbol's count is at least the positions of one decode set that name it. -/
theorem count_decodeSet_le_refs {s : State} (h : TablesOk s) (u : Fin 2) (j : Fin 64) :
    (s.captureUnit u).decodeSet.count j ≤ (s.symbol j).refs := by
  obtain ⟨-, -, -, hcount, -⟩ := h
  rw [hcount j]
  exact Nat.le_add_left_of_le (count_le_positionsNaming s u j)

/-- A unit is replaced with its decode set, whose positions enter the counts as the old one's leave them (R11). -/
theorem setDecodeSet_keeps {b : Prop} {s : State} {u : Fin 2} {x : CaptureUnit} (hlen : x.decodeSet.length ≤ 12)
    (hnodup : x.decodeSet.Nodup) (hdef : ∀ j ∈ x.decodeSet, (s.symbol j).state = .defined) :
    KeepsNamed b s (((s.raiseRefs x.decodeSet).lowerRefs (s.captureUnit u).decodeSet).setUnit u x) := by
  generalize ht : ((s.raiseRefs x.decodeSet).lowerRefs (s.captureUnit u).decodeSet).setUnit u x = t
  have hsym : ∀ j, t.symbol j = { s.symbol j with
      refs := (s.symbol j).refs + x.decodeSet.count j - (s.captureUnit u).decodeSet.count j } :=
    fun j => by simp [← ht]
  have hslot : ∀ i, t.slot i = s.slot i := fun i => by simp [← ht]
  have hch : t.channels = s.channels := by simp [← ht, raiseRefs_eq, lowerRefs_eq, State.setUnit]
  have hunit : ∀ k, t.captureUnit k = (s.setUnit u x).captureUnit k := fun k => by simp [← ht]
  refine ⟨fun j _ => by rw [hsym], fun h => framesOk_of_named h ?_ hch (fun i => .inl (hslot i))
    (fun j _ => by rw [hsym])⟩
  obtain ⟨-, hslotOk, hset, hcount, hnamed⟩ := h.tables
  refine tablesOk_of_recount h.tables (fun j => by rw [hsym]) (fun i => by rw [hslot]; exact hslotOk i)
    (fun k => ?_) (fun j => ?_) (fun j hj => ?_)
  · rw [hunit, setUnit_captureUnit]
    split
    · exact ⟨hlen, hnodup⟩
    · exact hset k
  · have hmoved := positionsNaming_setUnit u x s j
    have hpos : t.positionsNaming j = (s.setUnit u x).positionsNaming j :=
      positionsNaming_congr (fun k => by rw [hunit]) j
    have hcells : t.cellsNaming j = s.cellsNaming j := cellsNaming_congr (fun i => by rw [hslot]) j
    have hle := count_decodeSet_le_refs h.tables u j
    have := hcount j
    rw [hsym]
    simp only
    omega
  · by_cases hold : 0 < (s.symbol j).refs
    · exact hnamed j hold
    · rw [hsym] at hj
      exact hdef j (List.count_pos_iff.mp (by simp only at hj; omega))

theorem cmdCapDecodeSet_keeps {b : Prop} {s t : State} (h : cmdCapDecodeSet s = .ok t) : KeepsNamed b s t := by
  unfold cmdCapDecodeSet at h
  split at h
  · cases h
  · simp only at h
    split at h
    · cases h
    · split at h
      · cases h
      · split at h
        · cases h
        · next hdefined =>
          split at h
          · cases h
          · next hnodup =>
            cases h
            rw [modUnit_eq, lowerRefs_captureUnit, raiseRefs_captureUnit]
            exact setDecodeSet_keeps (length_symbolIndices_stageWords s (s.arg 1).toNat).2
              (Decidable.not_not.mp hnodup) (defined_of_none_empty hdefined)

end Sys2Proof.Proofs
end

section
/-! SUPPORT. What every row and every step keeps: O53 and O60. -/

namespace Sys2Proof.Proofs

open Sys2Proof Sys2Proof.Machine Sys2Proof.Machine.Laws Sys2Proof.Stated

/-! ### Words completed at the host port -/

/-- The effect of every command, by the command. -/
theorem commandRun_keeps {b : Prop} {c : Command} {s t : State} (h : Command.run c s = .ok t) :
    KeepsNamed b s t := by
  cases c with
  | defineSymbol => exact cmdDefineSymbol_keeps h
  | clearSymbol => exact cmdClearSymbol_keeps h
  | readSymbol => exact (sameFrames_readSymbol h).named
  | openSeq => exact cmdOpenSeq_keeps h
  | appendSeq => exact cmdAppendSeq_keeps h
  | sealSeq => exact cmdSealSeq_keeps h
  | discardSeq => exact cmdDiscardSeq_keeps h
  | freeSeq => exact cmdFreeSeq_keeps h
  | readSeq => exact (sameFrames_readSeq h).named
  | postFrame => exact (cmdPostFrame_keeps h).named
  | flush => exact (cmdFlush_keeps h).named
  | abort => exact (cmdAbort_keeps h).named
  | release => exact (cmdRelease_keeps h).named
  | hold => exact (cmdHold_keeps h).named
  | resume => exact (cmdResume_keeps h).named
  | clPop => exact (cmdClPop_keeps h).named
  | capSetup => exact (sameFrames_capSetup h).named
  | capDecodeSet => exact cmdCapDecodeSet_keeps h
  | capStart => exact (sameFrames_capStart h).named
  | capStop => exact (sameFrames_capStop h).named
  | capPop => exact (sameFrames_capPop h).named
  | setTimebase => exact (sameFrames_setTimebase h).named
  | pinRoute => exact (sameFrames_pinRoute h).named
  | engineReset =>
    cases h
    exact (engineReset_keeps b s).named

theorem arrive_keeps (b : Prop) (c : Command) (code : BitVec 8) (s : State) :
    KeepsNamed b s (arrive code (Command.run c) s) := by
  unfold arrive
  split
  · next t h => exact (commandRun_keeps h).trans_keeps (sameFrames_setResult code .ok t).keeps
  · next r _ => exact (sameFrames_setResult code r s).named

theorem completeWord_keeps {b : Prop} {r : Reg} {f : State → State} {s : State} (h : KeepsNamed b s (f s)) :
    KeepsNamed b s (completeWord r f s) := by
  rcases completeWord_cases r f s with ⟨-, e⟩ | ⟨-, e⟩ <;> rw [e]
  · exact h.trans_keeps (sameFrames_setPort _ _).keeps
  · exact (SameFrames.refl s).named

/-- Every row that is a command's code completed at CMD. -/
theorem commandWord_keeps (b : Prop) (c : Command) (s : State) :
    KeepsNamed b s (commandWord c (Command.run c) s) :=
  completeWord_keeps (arrive_keeps b c c.code s)

theorem writeCmd_keeps (b : Prop) (code : BitVec 8) (s : State) : KeepsNamed b s (writeCmd code s) := by
  unfold writeCmd
  split
  · exact arrive_keeps b _ code s
  · exact (sameFrames_setResult code _ s).named

theorem writeReg_keeps (b : Prop) (r : Reg) (w : Word) (s : State) : KeepsNamed b s (writeReg r w s) := by
  cases r with
  | cmd => exact writeCmd_keeps b _ s
  | arg i => exact SameFrames.named (.of_eq rfl rfl rfl rfl)
  | stage i => exact SameFrames.named (.of_eq rfl rfl rfl rfl)
  | evtPend i => exact SameFrames.named (.of_eq rfl rfl rfl rfl)
  | evtEn i => exact SameFrames.named (.of_eq rfl rfl rfl rfl)
  | txCtrl n => exact (writeTxCtrl_keeps b n _ _ s).named
  | cgPeriod g => exact (sameFrames_modCarrier g _ s).named
  | cgHigh g => exact (sameFrames_modCarrier g _ s).named
  | cgCtrl g => exact (writeCarrierCtrl_keeps b g _ s).named
  | pinCfg p => exact SameFrames.named (.of_eq rfl rfl rfl rfl)
  | result | clOut _ | clStatus | capOut _ | capStatus _ | txStatus _ | timebase | pinSense | pinRoute _ =>
    exact (SameFrames.refl s).named

/-! ### The rows -/

theorem internalEvent_keeps {b : Prop} {f : State → State} {s : State} (h : KeepsFrames b s (f s)) :
    KeepsNamed b s (internalEvent f s) := by
  unfold internalEvent
  split
  · exact (SameFrames.refl s).named
  · exact h.named

/-- A row that the queue may hold outside the two of a full reset. -/
def NoFullReset : Instr → Prop
  | .fullReset _ | .fullResetEnd _ => False
  | _ => True

/-- What a row leaves, if its outcome is a state. -/
theorem keepsNamed_of_next {b : Prop} {s t u : State} (h : KeepsNamed b s u)
    (e : (Host.Outcome.next u : Host.Outcome State Fault Refusal) = .next t) : KeepsNamed b s t := by
  cases e
  exact h

/-- Every row but the two of a full reset keeps the named records and the invariant. -/
theorem exec_keeps {b : Prop} {i : Instr} (hi : NoFullReset i) {s t : State} (h : exec i s = .next t) :
    KeepsNamed b s t := by
  cases i with
  | frameBegin => exact keepsNamed_of_next (sameFrames_frameBegin s).named h
  | header byte => exact keepsNamed_of_next (sameFrames_headerDone byte s).named h
  | selRise => exact keepsNamed_of_next (sameFrames_selRise s).named h
  | fullReset c => exact absurd hi id
  | fullResetEnd c => exact absurd hi id
  | badCommand code =>
    refine keepsNamed_of_next ?_ h
    split
    · exact completeWord_keeps (sameFrames_setResult code _ s).named
    · exact (SameFrames.refl s).named
  | defineSymbol => exact keepsNamed_of_next (commandWord_keeps b .defineSymbol s) h
  | clearSymbol => exact keepsNamed_of_next (commandWord_keeps b .clearSymbol s) h
  | readSymbol => exact keepsNamed_of_next (commandWord_keeps b .readSymbol s) h
  | openSeq => exact keepsNamed_of_next (commandWord_keeps b .openSeq s) h
  | appendSeq => exact keepsNamed_of_next (commandWord_keeps b .appendSeq s) h
  | sealSeq => exact keepsNamed_of_next (commandWord_keeps b .sealSeq s) h
  | discardSeq => exact keepsNamed_of_next (commandWord_keeps b .discardSeq s) h
  | freeSeq => exact keepsNamed_of_next (commandWord_keeps b .freeSeq s) h
  | readSeq => exact keepsNamed_of_next (commandWord_keeps b .readSeq s) h
  | postFrame => exact keepsNamed_of_next (commandWord_keeps b .postFrame s) h
  | flush => exact keepsNamed_of_next (commandWord_keeps b .flush s) h
  | abort => exact keepsNamed_of_next (commandWord_keeps b .abort s) h
  | release => exact keepsNamed_of_next (commandWord_keeps b .release s) h
  | hold => exact keepsNamed_of_next (commandWord_keeps b .hold s) h
  | resume => exact keepsNamed_of_next (commandWord_keeps b .resume s) h
  | clPop => exact keepsNamed_of_next (commandWord_keeps b .clPop s) h
  | capSetup => exact keepsNamed_of_next (commandWord_keeps b .capSetup s) h
  | capDecodeSet => exact keepsNamed_of_next (commandWord_keeps b .capDecodeSet s) h
  | capStart => exact keepsNamed_of_next (commandWord_keeps b .capStart s) h
  | capStop => exact keepsNamed_of_next (commandWord_keeps b .capStop s) h
  | capPop => exact keepsNamed_of_next (commandWord_keeps b .capPop s) h
  | setTimebase => exact keepsNamed_of_next (commandWord_keeps b .setTimebase s) h
  | pinRoute => exact keepsNamed_of_next (commandWord_keeps b .pinRoute s) h
  | engineReset => exact keepsNamed_of_next (commandWord_keeps b .engineReset s) h
  | registerWrite w => exact keepsNamed_of_next (completeWord_keeps (writeReg_keeps b _ w s)) h
  | settingEnabled n w => exact keepsNamed_of_next (completeWord_keeps (writeTxCtrl_keeps b n true w s).named) h
  | clearingEnabled n w => exact keepsNamed_of_next (completeWord_keeps (writeTxCtrl_keeps b n false w s).named) h
  | watermarkWrite n w => exact keepsNamed_of_next (completeWord_keeps (writeTxCtrl_keeps b n _ _ s).named) h
  | cgxPeriodWrite g w => exact keepsNamed_of_next (completeWord_keeps (sameFrames_modCarrier g _ s).named) h
  | cgxHighWrite g w => exact keepsNamed_of_next (completeWord_keeps (sameFrames_modCarrier g _ s).named) h
  | carrierEnable g => exact keepsNamed_of_next (completeWord_keeps (writeCarrierCtrl_keeps b g true s).named) h
  | carrierDisable g => exact keepsNamed_of_next (completeWord_keeps (writeCarrierCtrl_keeps b g false s).named) h
  | pinCfgWrite p w => exact keepsNamed_of_next (completeWord_keeps (writeReg_keeps b (.pinCfg p) w s)) h
  | evtPendWrite r w => exact keepsNamed_of_next (completeWord_keeps (writeReg_keeps b (.evtPend r) w s)) h
  | evtEnWrite r w => exact keepsNamed_of_next (completeWord_keeps (writeReg_keeps b (.evtEn r) w s)) h
  | beatEvent outside => exact keepsNamed_of_next (internalEvent_keeps (beatEvent_keeps b outside s)) h
  | startHead n => exact keepsNamed_of_next (internalEvent_keeps (startHead_keeps b n s)) h
  | phaseEnd n => exact keepsNamed_of_next (internalEvent_keeps (phaseEnd_keeps b n s)) h
  | gapEnd n => exact keepsNamed_of_next (internalEvent_keeps (gapEnd_keeps b n s)) h
  | recordAdmission => exact keepsNamed_of_next (internalEvent_keeps (recordAdmission_keeps b s)) h
  | resumeTaken n => exact keepsNamed_of_next (internalEvent_keeps (resumeTaken_keeps b n s)) h
  | carrierPeriodEnd g => exact keepsNamed_of_next (internalEvent_keeps (sameFrames_carrierPeriodEnd g s).keeps) h
  | carrierHighTimeEnd g => exact keepsNamed_of_next (internalEvent_keeps (sameFrames_carrierHighTimeEnd g s).keeps) h
  | acceptedEdge u => exact keepsNamed_of_next (internalEvent_keeps (sameFrames_acceptedEdge u s).keeps) h
  | idleTimeout u => exact keepsNamed_of_next (internalEvent_keeps (sameFrames_idleTimeout u s).keeps) h
  | stuckMark u => exact keepsNamed_of_next (internalEvent_keeps (sameFrames_stuckMark u s).keeps) h
  | readWordCompletion => exact keepsNamed_of_next (sameFrames_readWordDone s).named h

/-- A full reset that sets in, or ends, leaves a state with the invariant. -/
theorem exec_fullReset_framesOk {b : Prop} {i : Instr} (hi : ¬ NoFullReset i) {s t : State}
    (h : exec i s = .next t) (hs : FramesOk b s) : FramesOk b t := by
  cases i with
  | fullReset c =>
    cases h
    exact resetValues_framesOk b _
  | fullResetEnd c =>
    cases h
    split
    · exact resetValues_framesOk b _
    · exact hs
  | _ => exact absurd trivial hi

theorem sameFrames_setPending (l : List Instr) (s : State) : SameFrames s { s with pending := l } :=
  .of_eq rfl rfl rfl rfl

/-- With no command waiting, no record moves and the invariant stays. -/
theorem runByItself_keeps (b : Prop) (s : State) : KeepsFrames b s (runByItself s) := by
  unfold runByItself
  split
  · exact .refl b s
  · split
    · exact settleOne_keeps b s
    · exact clockPeriod_keeps b s

/-- Everything a step can be: a row of a full reset, or a change that keeps named records and the invariant. -/
theorem step_keeps {b : Prop} {s t : State} (h : step s = .next t) :
    KeepsNamed b s t ∨ ∃ i rest, s.pending = i :: rest ∧ ¬ NoFullReset i ∧ (FramesOk b s → FramesOk b t) := by
  unfold step at h
  split at h
  · exact .inl (keepsNamed_of_next (runByItself_keeps b s).named h)
  · next i rest hp =>
    have hpop := sameFrames_setPending rest s
    by_cases hi : NoFullReset i
    · have hexec : KeepsNamed b { s with pending := rest } t := exec_keeps hi h
      exact .inl ⟨hexec.records, fun hs => hexec.frames (hpop.framesOk hs)⟩
    · exact .inr ⟨i, rest, hp, hi, fun hs => exec_fullReset_framesOk hi h (hpop.framesOk hs)⟩

/-- Settles O53: the invariant FramesOk is kept by every row, by the clock and by both rows of a full reset; it is taken
with b the promise about the numbers in s, so that the places alone are kept where that does not hold. -/
theorem everyStepKeepsTablesQueuesAndPlaces : Obligations.EveryStepKeepsTablesQueuesAndPlaces := by
  intro s t hs h
  have hinv : FramesOk (ContextsOk s) s := (framesOk_iff _ _).mpr ⟨hs, id⟩
  rcases step_keeps (b := ContextsOk s) h with hk | ⟨i, rest, -, -, hk⟩
  · exact (framesOk_iff _ _).mp (hk.frames hinv)
  · exact (framesOk_iff _ _).mp (hk hinv)

/-- Settles O60: every row but the two of a full reset keeps the record of each named symbol, and the clock moves none. -/
theorem aNamedSymbolDoesNotChange : Obligations.ANamedSymbolDoesNotChange := by
  intro s t j hj h hreset hend
  rcases step_keeps (b := False) h with hk | ⟨i, rest, hp, hi, -⟩
  · exact hk.records j hj
  · cases i with
    | fullReset c => exact absurd hp (hreset c rest)
    | fullResetEnd c => exact absurd hp (hend c rest)
    | _ => exact absurd trivial hi

end Sys2Proof.Proofs
end

section
/-! SUPPORT. The answers of command rows at CMD, and the Symbol Table's statements: O15, O16 and O17. -/

namespace Sys2Proof.Proofs

open Sys2Proof Sys2Proof.Machine Sys2Proof.Machine.Laws Sys2Proof.Stated

/-! ### Answers at CMD -/

/-- The pointer moves as R176 says. -/
theorem advance_eq (t : State) : ({ t with port := t.port.advance } : State) = moved t := by
  unfold moved Port.advance
  split <;> rfl

/-- A command word answers with the result of its checks, on the state that its effect leaves. -/
theorem commandWord_answered {s : State} (h : s.AtWrite .cmd) (c : Command) (f : State → Except Result State) :
    commandWord c f s = match f s with
      | .ok t => answered c .ok t
      | .error r => answered c r s := by
  cases hf : f s with
  | ok t =>
    rw [commandWord_ok h hf]
    exact advance_eq (t.setResult c.code .ok)
  | error r =>
    rw [commandWord_error h hf]
    exact advance_eq (s.setResult c.code r)

/-- The row of a command is its code completed at CMD. -/
theorem exec_rowOf (c : Command) (s : State) : exec (rowOf c) s = .next (commandWord c (Command.run c) s) := by
  cases c <;> rfl

/-- A command row, where its checks and effect give a state. -/
theorem exec_rowOf_ok {s t : State} (h : s.AtWrite .cmd) {c : Command} (hf : Command.run c s = .ok t) :
    exec (rowOf c) s = .next (answered c .ok t) := by
  rw [exec_rowOf, commandWord_answered h, hf]

/-- A command row, where a check fails. -/
theorem exec_rowOf_error {s : State} {r : Result} (h : s.AtWrite .cmd) {c : Command}
    (hf : Command.run c s = .error r) : exec (rowOf c) s = .next (answered c r s) := by
  rw [exec_rowOf, commandWord_answered h, hf]

/-- An index out of range is refused if the command's own checks refuse it first. -/
theorem indexBelow_of_error {s : State} (h : s.AtWrite .cmd) {n : Nat} {c : Command}
    (hf : index? n (s.arg 0) = none → Command.run c s = .error .badIndex) : IndexBelow n c s :=
  fun hn => exec_rowOf_error h (hf (index?_none hn))

/-! ### STAGE and argument words -/

/-- A property of some of the first c STAGE words, by position. -/
theorem stageWords_any (s : State) (c : Nat) (p : Word → Bool) :
    (s.stageWords c).any p = true ↔ ∃ k : Fin 12, k.val < c ∧ p s.stage[k] = true := by
  rw [State.stageWords, List.any_eq_true]
  constructor
  · rintro ⟨w, hw, hp⟩
    obtain ⟨k, hk, rfl⟩ := List.mem_take_iff_getElem.mp hw
    have hk' : k < c ∧ k < 12 := by simpa using hk
    exact ⟨⟨k, hk'.2⟩, hk'.1, by simpa using hp⟩
  · rintro ⟨k, hk, hp⟩
    refine ⟨s.stage[k], List.mem_take_iff_getElem.mpr ⟨k, by simpa using hk, by simp⟩, hp⟩

theorem lowByte_eq (w : Word) : lowByte w = BitVec.ofNat 8 w.toNat := by
  apply BitVec.eq_of_toNat_eq
  simp [lowByte]

/-! ### DEFINE_SYMBOL and CLEAR_SYMBOL -/

/-- DEFINE_SYMBOL's check of its arguments, in R4's words. -/
theorem defineArgsBad_iff (s : State) : defineArgsBad s = true ↔
    1 < (s.arg 1).toNat ∨ (s.arg 2).toNat = 0 ∨ 8 < (s.arg 2).toNat ∨ 50 < (s.arg 3).toNat
      ∨ 255 < (s.arg 4).toNat ∨ ∃ p : Fin 12, p.val < (s.arg 2).toNat ∧ s.stage[p] = 0 := by
  simp only [defineArgsBad, Bool.or_eq_true, stageWords_any, decide_eq_true_eq, or_assoc]

/-- The record that DEFINE_SYMBOL writes, in R5's words. -/
theorem definedSymbol_eq (s : State) : definedSymbol s 0 = {
    state := .defined
    lead := if (s.arg 1).toNat = 0 then .mark else .space
    lengths := (s.stage.toList.take (s.arg 2).toNat).map BitVec.toNat
    tolerance := (s.arg 3).toNat, code := BitVec.ofNat 8 (s.arg 4).toNat, refs := 0 } := by
  have hlead : s.arg 1 = 0 ↔ (s.arg 1).toNat = 0 := by
    rw [← BitVec.toNat_inj]
    rfl
  simp only [definedSymbol, hlead, lowByte_eq, State.stageWords]

theorem cmdDefineSymbol_of_index {s : State} {i : Fin 64} (hi : (s.arg 0).toNat = i) :
    cmdDefineSymbol s = if defineArgsBad s then .error .badArg
      else if 0 < (s.symbol i).refs then .error .inUse
      else .ok (s.setSymbol i (definedSymbol s (s.symbol i).refs)) := by
  simp only [cmdDefineSymbol, index?_some hi]

theorem cmdClearSymbol_of_index {s : State} {i : Fin 64} (hi : (s.arg 0).toNat = i) :
    cmdClearSymbol s = if (s.symbol i).state = .empty then .error .already
      else if 0 < (s.symbol i).refs then .error .inUse
      else .ok (s.setSymbol i { Symbol.reset with refs := (s.symbol i).refs }) := by
  simp only [cmdClearSymbol, index?_some hi]

/-- Settles O15, check by check in R4's and R6's order; the record written has the count 0 that the last check found. -/
theorem defineAndClearWriteTheRecord : Obligations.DefineAndClearWriteTheRecord := by
  intro s h
  refine ⟨indexBelow_of_error h (fun hn => ?_), indexBelow_of_error h (fun hn => ?_), fun i hi => ⟨?_, ?_⟩⟩
  · show cmdDefineSymbol s = .error .badIndex
    simp only [cmdDefineSymbol, hn]
  · show cmdClearSymbol s = .error .badIndex
    simp only [cmdClearSymbol, hn]
  · have hrun := cmdDefineSymbol_of_index hi
    split
    · next hbad =>
      rw [if_pos ((defineArgsBad_iff s).mpr hbad)] at hrun
      exact exec_rowOf_error (c := .defineSymbol) h hrun
    · next hgood =>
      rw [if_neg (fun hbad => hgood ((defineArgsBad_iff s).mp hbad))] at hrun
      split
      · next hrefs =>
        rw [if_pos hrefs] at hrun
        exact exec_rowOf_error (c := .defineSymbol) h hrun
      · next hrefs =>
        rw [if_neg hrefs, Nat.eq_zero_of_not_pos hrefs, definedSymbol_eq] at hrun
        exact exec_rowOf_ok (c := .defineSymbol) h hrun
  · have hrun := cmdClearSymbol_of_index hi
    split
    · next hempty =>
      rw [if_pos hempty] at hrun
      exact exec_rowOf_error (c := .clearSymbol) h hrun
    · next hdefined =>
      rw [if_neg hdefined] at hrun
      split
      · next hrefs =>
        rw [if_pos hrefs] at hrun
        exact exec_rowOf_error (c := .clearSymbol) h hrun
      · next hrefs =>
        rw [if_neg hrefs, Nat.eq_zero_of_not_pos hrefs] at hrun
        exact exec_rowOf_ok (c := .clearSymbol) h hrun

/-! ### READ_SYMBOL and READ_SEQ -/

/-- A byte above an 8-bit word with 0 in its upper byte reads as its number. -/
theorem zero_append_byte (b : BitVec 8) : (0#8 ++ b : Word) = BitVec.ofNat 16 b.toNat := by
  have happend : (0#8 ++ b).toNat = b.toNat := by
    rw [BitVec.toNat_append]
    simp
  have hlt := b.isLt
  exact BitVec.eq_of_toNat_eq (happend.trans (by rw [BitVec.toNat_ofNat]; omega))

/-- STAGE8 after READ_SYMBOL as a number: the phase count, the lead and the state at their places (R186). -/
theorem symbol_headWord (n : Nat) (hn : n ≤ 8) (lead : Level) (st : SymbolState) :
    (0#4 ++ BitVec.ofNat 4 n ++ 0#6 ++ BitVec.ofBool lead.leadBit ++ BitVec.ofBool st.bit : Word)
      = BitVec.ofNat 16 (256 * n + (if lead = .space then 2 else 0) + (if st = .defined then 1 else 0)) := by
  interval_cases n <;> cases lead <;> cases st <;> rfl

/-- STAGE0 after READ_SEQ as a number: the length and the state at their places (R186). -/
theorem slot_headWord (n : Nat) (hn : n ≤ 32) (st : SlotState) :
    (0#2 ++ BitVec.ofNat 6 n ++ 0#6 ++ st.code : Word)
      = BitVec.ofNat 16 (256 * n + (match st with | .free => 0 | .opened => 1 | .sealed => 2)) := by
  interval_cases n <;> cases st <;> rfl

/-- READ_SYMBOL's twelve words as numbers, for a record with at most 8 phases. -/
theorem symbol_stageWords_eq {x : Machine.Symbol} (hx : x.lengths.length ≤ 8) :
    x.stageWords = Vector.ofFn (fun p : Fin 12 => BitVec.ofNat 16 (
      if p.val < 8 then x.lengths.getD p 0
      else if p.val = 8 then
        256 * x.lengths.length + (if x.lead = .space then 2 else 0) + (if x.state = .defined then 1 else 0)
      else if p.val = 9 then x.tolerance
      else if p.val = 10 then x.code.toNat
      else x.refs)) := by
  refine Vector.ext (fun p hp => ?_)
  simp only [Symbol.stageWords, Vector.getElem_ofFn, symbol_headWord _ hx, zero_append_byte,
    List.getD_eq_getElem?_getD]
  interval_cases p <;> rfl

/-- A word of READ_SEQ's window. -/
theorem cellWord_eq (x : Slot) (p : Nat) :
    x.cellWord p = BitVec.ofNat 16 (match x.cells[p]? with
      | some c => c.val
      | none => 0xFF) := by
  unfold Slot.cellWord
  cases x.cells[p]? <;> rfl

/-- READ_SEQ's twelve words as numbers, for a slot of at most 32 cells. -/
theorem slot_stageWords_eq {x : Slot} (hx : x.cells.length ≤ 32) (off : Nat) :
    x.stageWords off = Vector.ofFn (fun p : Fin 12 => BitVec.ofNat 16 (
      if p.val = 0 then
        256 * x.cells.length + (match x.state with | .free => 0 | .opened => 1 | .sealed => 2)
      else if p.val = 1 then x.frames
      else match x.cells[off + (p.val - 2)]? with
        | some c => c.val
        | none => 0xFF)) := by
  refine Vector.ext (fun p hp => ?_)
  simp only [Slot.stageWords, Vector.getElem_ofFn, slot_headWord _ hx, cellWord_eq]
  interval_cases p <;> rfl

/-- A record that R1 allows has at most 8 phases. -/
theorem lengths_le_of_ok {x : Machine.Symbol} (h : x.Ok) : x.lengths.length ≤ 8 := by
  cases hst : x.state with
  | empty =>
    simp only [Symbol.Ok, hst] at h
    rw [h]
    exact Nat.zero_le 8
  | defined =>
    simp only [Symbol.Ok, hst] at h
    obtain ⟨-, hmax, -⟩ := h
    exact hmax

/-- Settles O16: the words are those of R186's table, whose fields hold what R1 and R18 allow. -/
theorem readCommandsFillStage : Obligations.ReadCommandsFillStage := by
  rintro s h ⟨hsym, hslot, -⟩
  refine ⟨indexBelow_of_error h (fun hn => ?_), indexBelow_of_error h (fun hn => ?_), fun i hi => ?_, fun i hi => ?_⟩
  · show cmdReadSymbol s = .error .badIndex
    simp only [cmdReadSymbol, hn]
  · show cmdReadSeq s = .error .badIndex
    simp only [cmdReadSeq, hn]
  · have hrun : cmdReadSymbol s = .ok { s with stage := (s.symbol i).stageWords } := by
      simp only [cmdReadSymbol, index?_some hi]
    rw [symbol_stageWords_eq (lengths_le_of_ok (hsym i))] at hrun
    exact exec_rowOf_ok (c := .readSymbol) h hrun
  · have hrun : cmdReadSeq s = if 31 < (s.arg 1).toNat then .error .badArg
        else .ok { s with stage := (s.slot i).stageWords (s.arg 1).toNat } := by
      simp only [cmdReadSeq, index?_some hi]
    simp only
    split
    · next hbad =>
      rw [if_pos hbad] at hrun
      exact exec_rowOf_error (c := .readSeq) h hrun
    · next hgood =>
      rw [if_neg hgood, slot_stageWords_eq (hslot i).1] at hrun
      exact exec_rowOf_ok (c := .readSeq) h hrun

/-! ### Matching -/

/-- R13's inequality is R14's range. -/
theorem withinTolerance_iff (m n t : Nat) :
    withinTolerance m n t = true ↔ n - t * n / 100 ≤ m ∧ m ≤ n + t * n / 100 := by
  simp only [withinTolerance, decide_eq_true_eq]
  omega

theorem levelAt_eq (x : Machine.Symbol) (p : Nat) :
    x.levelAt p = if p % 2 = 0 then x.lead else opposite x.lead := by
  unfold Symbol.levelAt
  cases x.lead <;> rfl

/-- A phase matches a position of a DEFINED symbol that has it, at its level, in R14's range of its length. -/
theorem matchesAt_iff (x : Machine.Symbol) (p : Nat) (ph : Phase) :
    x.matchesAt p ph = true ↔ x.state = .defined ∧ ∃ n, x.lengths[p]? = some n ∧ ph.level = x.levelAt p
      ∧ n - x.tolerance * n / 100 ≤ ph.length ∧ ph.length ≤ n + x.tolerance * n / 100 := by
  simp only [Symbol.matchesAt, Bool.and_eq_true, decide_eq_true_eq, withinTolerance_iff, Symbol.lengthAt, and_assoc]
  refine and_congr_right (fun _ => ?_)
  by_cases hp : p < x.lengths.length
  · simp [hp]
  · simp [hp]

/-- A list matches from position p on when each of its phases matches the position of its own. -/
theorem matchesFrom_iff (x : Machine.Symbol) (p : Nat) (l : List Phase) :
    x.matchesFrom p l = true ↔ ∀ k ph, l[k]? = some ph → x.matchesAt (p + k) ph = true := by
  induction l generalizing p with
  | nil => simp [Symbol.matchesFrom]
  | cons a rest ih =>
    rw [Symbol.matchesFrom, Bool.and_eq_true, ih]
    constructor
    · rintro ⟨hhead, htail⟩ k ph hk
      cases k with
      | zero =>
        cases hk
        exact hhead
      | succ k => exact (Nat.add_right_comm p 1 k) ▸ htail k ph hk
    · intro hall
      exact ⟨hall 0 a rfl, fun k ph hk => (Nat.add_right_comm p 1 k).symm ▸ hall (k + 1) ph hk⟩

theorem beginsWith_iff (x : Machine.Symbol) (l : List Phase) :
    x.beginsWith l = true ↔ x.state = .defined ∧ l.length ≤ x.lengths.length
      ∧ ∀ p ph, l[p]? = some ph → x.matchesAt p ph = true := by
  simp only [Symbol.beginsWith, Bool.and_eq_true, decide_eq_true_eq, matchesFrom_iff, Nat.zero_add, and_assoc]

theorem fullMatch_iff (x : Machine.Symbol) (l : List Phase) :
    x.fullMatch l = true ↔ x.beginsWith l = true ∧ l.length = x.lengths.length := by
  simp only [Symbol.fullMatch, Bool.and_eq_true, decide_eq_true_eq]

/-- Settles O17: each of the model's matching functions, in the manual's words. -/
theorem matchingLengthsFormOneRange : Obligations.MatchingLengthsFormOneRange :=
  ⟨fun m n t _ => withinTolerance_iff m n t, fun x => ⟨levelAt_eq x, fun p ph _ => matchesAt_iff x p ph,
    fun l => ⟨beginsWith_iff x l, fullMatch_iff x l⟩⟩⟩

end Sys2Proof.Proofs
end

section
/-! SUPPORT. The Sequence Store's statements: O18 and O19. -/

namespace Sys2Proof.Proofs

open Sys2Proof Sys2Proof.Machine Sys2Proof.Machine.Laws Sys2Proof.Stated

/-! ### A command's answer from its checks -/

/-- What the host finds after command c, from the outcome of its checks and effect. -/
def reply (c : Command) (s : State) : Except Result State → State
  | .ok t => answered c .ok t
  | .error r => answered c r s

@[simp] theorem reply_ok (c : Command) (s t : State) : reply c s (.ok t) = answered c .ok t := rfl

@[simp] theorem reply_error (c : Command) (s : State) (r : Result) : reply c s (.error r) = answered c r s := rfl

/-- Checks in their order give answers in the same order. -/
@[simp] theorem reply_ite (c : Command) (s : State) (p : Prop) [Decidable p] (x y : Except Result State) :
    reply c s (if p then x else y) = if p then reply c s x else reply c s y :=
  apply_ite (reply c s) p x y

theorem exec_rowOf_reply {s : State} (h : s.AtWrite .cmd) (c : Command) :
    exec (rowOf c) s = .next (reply c s (Command.run c s)) := by
  cases hf : Command.run c s with
  | ok t => exact exec_rowOf_ok h hf
  | error r => exact exec_rowOf_error h hf

/-! ### Counts as R9 and R10 move them -/

theorem lowerRefs_eq_recount (l : List (Fin 64)) (s : State) :
    s.lowerRefs l = { s with symbols := recount l [] s } := by
  simp only [lowerRefs_eq, recount, List.count_nil, Nat.add_zero]

theorem raiseRefs_eq_recount (l : List (Fin 64)) (s : State) :
    s.raiseRefs l = { s with symbols := recount [] l s } := by
  simp only [raiseRefs_eq, recount, List.count_nil, Nat.sub_zero]

/-- An emptied slot keeps its frame count, and its cells leave the counts of the symbols they named. -/
theorem emptySlot_eq (i : Fin 32) (s : State) : emptySlot i s = { s with
    slots := s.slots.set i { state := .free, cells := [], frames := (s.slot i).frames }
    symbols := recount (s.slot i).cells [] s } :=
  lowerRefs_eq_recount _ _

/-! ### OPEN_SEQ, SEAL_SEQ, DISCARD_SEQ and FREE_SEQ -/

section
variable {s : State} {i : Fin 32} (hi : (s.arg 0).toNat = i)
include hi

theorem cmdOpenSeq_of_index : cmdOpenSeq s =
    if (s.slot i).state ≠ .free then .error .busy
    else .ok (s.setSlot i { s.slot i with state := .opened, cells := [] }) := by
  simp only [cmdOpenSeq, index?_some hi]

theorem cmdSealSeq_of_index : cmdSealSeq s =
    if (s.slot i).state ≠ .opened then .error .notOpen
    else if (s.slot i).cells.length = 0 then .error .empty
    else .ok (s.setSlot i { s.slot i with state := .sealed }) := by
  simp only [cmdSealSeq, index?_some hi, List.length_eq_zero_iff]

theorem cmdDiscardSeq_of_index : cmdDiscardSeq s =
    if (s.slot i).state ≠ .opened then .error .notOpen else .ok (emptySlot i s) := by
  simp only [cmdDiscardSeq, index?_some hi]

theorem cmdFreeSeq_of_index : cmdFreeSeq s =
    if (s.slot i).state ≠ .sealed then .error .notSealed
    else if 0 < (s.slot i).frames then .error .inUse
    else .ok (emptySlot i s) := by
  simp only [cmdFreeSeq, index?_some hi]

end

/-- Settles O18, command by command: the checks as the command makes them, and the slot and counts that it leaves. -/
theorem slotCommandsMoveASlot : Obligations.SlotCommandsMoveASlot := by
  intro s h
  refine ⟨indexBelow_of_error h (fun hn => ?_), indexBelow_of_error h (fun hn => ?_),
    indexBelow_of_error h (fun hn => ?_), indexBelow_of_error h (fun hn => ?_), fun i hi => ⟨?_, ?_, ?_, ?_⟩⟩
  · simp only [Command.run, cmdOpenSeq, hn]
  · simp only [Command.run, cmdSealSeq, hn]
  · simp only [Command.run, cmdDiscardSeq, hn]
  · simp only [Command.run, cmdFreeSeq, hn]
  · refine (exec_rowOf_reply h .openSeq).trans ?_
    simp only [Command.run, cmdOpenSeq_of_index hi, reply_ite, reply_ok, reply_error, State.setSlot]
  · refine (exec_rowOf_reply h .sealSeq).trans ?_
    simp only [Command.run, cmdSealSeq_of_index hi, reply_ite, reply_ok, reply_error, State.setSlot]
  · refine (exec_rowOf_reply h .discardSeq).trans ?_
    simp only [Command.run, cmdDiscardSeq_of_index hi, reply_ite, reply_ok, reply_error, emptySlot_eq]
  · refine (exec_rowOf_reply h .freeSeq).trans ?_
    simp only [Command.run, cmdFreeSeq_of_index hi, reply_ite, reply_ok, reply_error, emptySlot_eq]

/-! ### APPEND_SEQ -/

/-- The model's check of the batch, in R22's words. -/
theorem stageWords_any_above63 (s : State) (c : Nat) :
    (s.stageWords c).any (fun w => 63 < w.toNat) = true ↔ StageAbove63 s c := by
  simp only [stageWords_any, decide_eq_true_eq]

/-- Where no STAGE word of the batch is above 63, none is left out of its indices. -/
theorem symbolIndices_stageWords {s : State} {c : Nat} (h : ¬ StageAbove63 s c) :
    symbolIndices (s.stageWords c) = stageIndices s c := by
  have hindex : ∀ w ∈ s.stageWords c, index? 64 w = some (Fin.ofNat 64 w.toNat) := by
    intro w hw
    have hle : w.toNat ≤ 63 := by
      by_contra hgt
      exact h ((stageWords_any_above63 s c).mp (List.any_eq_true.mpr ⟨w, hw, by simpa using hgt⟩))
    exact index?_some (Nat.mod_eq_of_lt (by omega)).symm
  calc symbolIndices (s.stageWords c)
      = (s.stageWords c).filterMap (fun w => some (Fin.ofNat 64 w.toNat)) := List.filterMap_congr hindex
    _ = stageIndices s c := congrFun List.filterMap_eq_map' _

/-- APPEND_SEQ's checks and effect in the manual's words: the batch is read once all of it is known to be in range. -/
theorem cmdAppendSeq_of_index {s : State} {i : Fin 32} (hi : (s.arg 0).toNat = i) : cmdAppendSeq s =
    if (s.slot i).state ≠ .opened then .error .notOpen
    else if (s.arg 1).toNat = 0 ∨ 12 < (s.arg 1).toNat ∨ StageAbove63 s (s.arg 1).toNat then .error .badArg
    else if StageNamesEmpty s (s.arg 1).toNat then .error .notDefined
    else if 32 < (s.slot i).cells.length + (s.arg 1).toNat then .error .seqFull
    else .ok { s with
      slots := s.slots.set i { s.slot i with
        cells := (s.slot i).cells ++ stageIndices s (s.arg 1).toNat }
      symbols := recount [] (stageIndices s (s.arg 1).toNat) s } := by
  simp only [cmdAppendSeq, index?_some hi, stageWords_any_above63]
  by_cases hbad : (s.arg 1).toNat = 0 ∨ 12 < (s.arg 1).toNat ∨ StageAbove63 s (s.arg 1).toNat
  · simp only [if_pos hbad]
  · have hrange : ¬ StageAbove63 s (s.arg 1).toNat := fun habove => hbad (.inr (.inr habove))
    simp only [if_neg hbad, symbolIndices_stageWords hrange, List.any_eq_true, decide_eq_true_eq,
      raiseRefs_eq_recount]
    rfl

/-- Settles O19: a refused batch leaves the slot and the counts, an accepted one joins both whole. -/
theorem appendSeqAddsCellsAndCounts : Obligations.AppendSeqAddsCellsAndCounts := by
  intro s h
  refine ⟨indexBelow_of_error h (fun hn => ?_), fun i hi => ?_⟩
  · simp only [Command.run, cmdAppendSeq, hn]
  · refine (exec_rowOf_reply h .appendSeq).trans ?_
    simp only [Command.run, cmdAppendSeq_of_index hi, reply_ite, reply_ok, reply_error]

end Sys2Proof.Proofs
end

section
/-! SUPPORT. The statement about POST_FRAME: O20. -/

namespace Sys2Proof.Proofs

open Sys2Proof Sys2Proof.Machine Sys2Proof.Machine.Laws Sys2Proof.Stated

/-! ### POST_FRAME's argument words (R38, R186) -/

theorem eq_0xFFFF_iff (w : Word) : w = 0xFFFF ↔ w.toNat = 65535 := BitVec.toNat_eq

theorem postCarrierCode_toNat (w : Word) : (postCarrierCode w).toNat = w.toNat / 256 % 4 := by
  simp [postCarrierCode, Nat.shiftRight_eq_div_pow]

theorem postCarrierCode_eq_iff (w : Word) (c : BitVec 2) : postCarrierCode w = c ↔ w.toNat / 256 % 4 = c.toNat := by
  rw [BitVec.toNat_eq, postCarrierCode_toNat]

theorem repeatFromOf_eq (w : Word) : repeatFromOf w = if w.toNat = 65535 then none else some w.toNat := by
  simp only [repeatFromOf, eq_0xFFFF_iff]

theorem carrierOfCode_postCarrierCode (w : Word) : carrierOfCode (postCarrierCode w) =
    if w.toNat / 256 % 4 = 1 then some 0 else if w.toNat / 256 % 4 = 2 then some 1 else none := by
  simp only [carrierOfCode, postCarrierCode_eq_iff, BitVec.reduceToNat]

/-- R38's third check in the manual's words. -/
theorem postArgsBad_iff (s : State) (i : Fin 32) : postArgsBad s i = true ↔
    255 < (s.arg 2).toNat ∨ (s.arg 5).toNat / 256 % 4 = 3
      ∨ ((s.arg 3).toNat ≠ 65535 ∧ (s.slot i).cells.length ≤ (s.arg 3).toNat) := by
  simp only [postArgsBad, Bool.or_eq_true, Bool.and_eq_true, decide_eq_true_eq, ne_eq, eq_0xFFFF_iff,
    postCarrierCode_eq_iff, BitVec.reduceToNat]
  rw [or_right_comm, or_assoc]

/-- The descriptor that POST_FRAME forms, from the argument words as numbers. -/
theorem postedDescriptor_eq (s : State) (i : Fin 32) : postedDescriptor s i =
    { slot := i, repeats := (s.arg 2).toNat
      repeatFrom := if (s.arg 3).toNat = 65535 then none else some (s.arg 3).toNat
      gap := (s.arg 4).toNat
      carrier := if (s.arg 5).toNat / 256 % 4 = 1 then some 0
        else if (s.arg 5).toNat / 256 % 4 = 2 then some 1 else none
      tag := BitVec.ofNat 8 (s.arg 5).toNat } := by
  simp only [postedDescriptor, repeatFromOf_eq, carrierOfCode_postCarrierCode, postTag, lowByte_eq]

/-! ### POST_FRAME's checks and effect -/

/-- Either index out of range is refused before any other check. -/
theorem cmdPostFrame_badIndex {s : State} (h : index? 4 (s.arg 0) = none ∨ index? 32 (s.arg 1) = none) :
    cmdPostFrame s = .error .badIndex := by
  unfold cmdPostFrame
  split
  · next hn hi => simp [hn, hi] at h
  · rfl

/-- POST_FRAME once both indices are read: the queue and the slot's frame count lie in different tables, so the model's
two updates are one. -/
theorem cmdPostFrame_of_index {s : State} {n : Fin 4} {i : Fin 32} (hn : (s.arg 0).toNat = n)
    (hi : (s.arg 1).toNat = i) : cmdPostFrame s =
    if (s.slot i).state ≠ .sealed then .error .notSealed
    else if postArgsBad s i then .error .badArg
    else if 6 ≤ (s.channel n).queue.length then .error .queueFull
    else .ok { s with
      channels := s.channels.set n
        { s.channel n with queue := (s.channel n).queue ++ [postedDescriptor s i] }
      slots := s.slots.set i { s.slot i with frames := (s.slot i).frames + 1 } } := by
  simp only [cmdPostFrame, index?_some hn, index?_some hi]
  rfl

/-- Settles O20: an index out of range stops POST_FRAME first; with both in range its checks answer in R38's order. -/
theorem postFrameQueuesADescriptor : Obligations.PostFrameQueuesADescriptor := by
  intro s h
  refine ⟨indexBelow_of_error h fun hn => cmdPostFrame_badIndex (.inl hn),
    fun hi => exec_rowOf_error h (c := .postFrame) (cmdPostFrame_badIndex (.inr (index?_none hi))),
    fun n i hn hi => ?_⟩
  refine (exec_rowOf_reply h .postFrame).trans ?_
  simp only [Command.run, cmdPostFrame_of_index hn hi, reply_ite, reply_ok, reply_error, postArgsBad_iff,
    postedDescriptor_eq]

end Sys2Proof.Proofs
end

section
/-! SUPPORT. The statement about ABORT: O28. -/

namespace Sys2Proof.Proofs

open Sys2Proof Sys2Proof.Machine Sys2Proof.Machine.Laws Sys2Proof.Stated

/-! ### ABORT's checks and effect (R71, R72) -/

theorem eq_one_iff_toNat (w : Word) : w = 1 ↔ w.toNat = 1 := BitVec.toNat_eq

/-- R51: a channel has a context in PLAY and GAP, and in HELD where a frame was held. -/
theorem context_eq_some_iff (x : ChannelState) (c : Context) :
    x.context = some c ↔ x = .play c ∨ x = .gap c ∨ x = .held (some c) := by
  cases x <;> simp [ChannelState.context]

/-- R51: a channel has no context in IDLE and LOGWAIT, and in HELD where it was held without a frame. -/
theorem context_eq_none_iff (x : ChannelState) :
    x.context = none ↔ x = .idle ∨ (∃ r, x = .logwait r) ∨ x = .held none := by
  cases x <;> simp [ChannelState.context]

section
variable {s : State} {n : Fin 4} (hn : (s.arg 0).toNat = n)
include hn

/-- With no frame in progress ABORT finds nothing to end, once its kind is known. -/
theorem cmdAbort_of_noFrame (hctx : (s.channel n).state.context = none) : cmdAbort s =
    if 1 < (s.arg 1).toNat then .error .badArg else .error .noFrame := by
  rcases (context_eq_none_iff _).mp hctx with hst | ⟨r, hst⟩ | hst <;>
    simp only [cmdAbort, index?_some hn, hst]

/-- With a frame in progress SYMBOL waits only where a boundary is still to come, which is everywhere but in HELD. -/
theorem cmdAbort_of_frame {c : Context} (hctx : (s.channel n).state.context = some c) : cmdAbort s =
    if 1 < (s.arg 1).toNat then .error .badArg
    else if (s.arg 1).toNat = 1 ∧ (s.channel n).abortPending = true then .error .already
    else if (s.arg 1).toNat = 1 ∧ (s.channel n).state ≠ .held (some c) then
      .ok (s.setChannel n { s.channel n with abortPending := true })
    else .ok (frameEnd n .aborted c (s.channel n).watermark s) := by
  simp only [cmdAbort, index?_some hn, ← eq_one_iff_toNat]
  have hstate := (context_eq_some_iff _ c).mp hctx
  by_cases hsymbol : s.arg 1 = 1
  · rcases hstate with hplay | hgap | hheld
    · simp [hsymbol, hplay]
    · simp [hsymbol, hgap]
    · simp [hsymbol, hheld]
  · rcases hstate with hst | hst | hst <;> simp only [hsymbol, hst, false_and, if_false]

end

/-- Settles O28: ABORT's checks and effect differ only by whether its channel has a frame in progress. -/
theorem abortEndsTheFrame : Obligations.AbortEndsTheFrame := by
  intro s h
  refine ⟨indexBelow_of_error h (fun hnone => ?_), fun n hn => ?_⟩
  · simp only [Command.run, cmdAbort, hnone]
  · refine (exec_rowOf_reply h .abort).trans ?_
    cases hctx : (s.channel n).state.context with
    | none => simp only [Command.run, cmdAbort_of_noFrame hn hctx, reply_ite, reply_error]
    | some c =>
      simp only [Command.run, cmdAbort_of_frame hn hctx, reply_ite, reply_ok, reply_error, State.setChannel]

end Sys2Proof.Proofs
end

section
/-! SUPPORT. The statement about PIN_ROUTE and PINn_CFG: O39. -/

namespace Sys2Proof.Proofs

open Sys2Proof Sys2Proof.Machine Sys2Proof.Machine.Laws Sys2Proof.Stated

/-! ### PIN_ROUTE's source words as numbers (R109) -/

/-- R109's source codes: 4 for CGA, 5 for CGB, and those of the channels. -/
def sourceOfNumber (k : Nat) : Source :=
  if k = 4 then .cg 0 else if k = 5 then .cg 1 else .tx (Fin.ofNat 4 k)

/-- A word that is a source code names the source of its number. -/
theorem sourceOfCode_of_le {w : Word} (h : w.toNat ≤ 5) : sourceOfCode w = some (sourceOfNumber w.toNat) := by
  unfold sourceOfCode sourceOfNumber
  by_cases htx : w.toNat < 4
  · have hfin : (⟨w.toNat, htx⟩ : Fin 4) = Fin.ofNat 4 w.toNat := Fin.ext (Nat.mod_eq_of_lt htx).symm
    have hcg : w.toNat ≠ 4 ∧ w.toNat ≠ 5 := by omega
    simp only [htx, dif_pos, hfin, hcg, if_false]
  · have hcg : w.toNat = 4 ∨ w.toNat = 5 := by omega
    rcases hcg with hk | hk <;> simp [hk]

/-- No source is left out of a list with no word above 5. -/
theorem filterMap_sourceOfCode {l : List Word} (h : ¬ ∃ k ∈ l.map BitVec.toNat, 5 < k) :
    l.filterMap sourceOfCode = (l.map BitVec.toNat).map sourceOfNumber := by
  have hsource : ∀ w ∈ l, sourceOfCode w = some (sourceOfNumber w.toNat) := by
    intro w hw
    exact sourceOfCode_of_le (Nat.not_lt.mp fun hgt => h ⟨w.toNat, List.mem_map_of_mem hw, hgt⟩)
  rw [List.map_map, ← List.filterMap_eq_map]
  exact List.filterMap_congr hsource

/-- The model's search for a word above 5, in R109's words. -/
theorem words_any_above5 (l : List Word) :
    l.any (fun w => 5 < w.toNat) = true ↔ ∃ k ∈ l.map BitVec.toNat, 5 < k := by
  simp only [List.any_eq_true, decide_eq_true_eq, List.mem_map, exists_exists_and_eq_and]

/-- PIN_ROUTE's checks and effect on the codes as numbers. -/
theorem cmdPinRoute_of_index {s : State} {p : Fin 8} (hp : (s.arg 0).toNat = p) : cmdPinRoute s =
    let codes := (routeWords s (s.arg 1).toNat).map BitVec.toNat
    if 3 < (s.arg 1).toNat ∨ ∃ k ∈ codes, 5 < k then .error .badArg
    else if ¬ codes.Nodup then .error .duplicate
    else .ok (s.setPin p { s.pin p with route := codes.map sourceOfNumber }) := by
  simp only [cmdPinRoute, index?_some hp, words_any_above5, List.nodup_map_iff BitVec.toNat_injective]
  by_cases hbad : 3 < (s.arg 1).toNat ∨ ∃ k ∈ (routeWords s (s.arg 1).toNat).map BitVec.toNat, 5 < k
  · simp only [if_pos hbad]
  · have hcodes := fun habove => hbad (.inr habove)
    simp only [if_neg hbad, filterMap_sourceOfCode hcodes]

/-! ### PINn_CFG (R107, R186) -/

/-- A bit of a word is the parity of the word shifted down to it. -/
theorem getLsbD_eq_decide (w : Word) (i : Nat) : w.getLsbD i = decide (w.toNat / 2 ^ i % 2 = 1) :=
  Nat.testBit_eq_decide_div_mod_eq

/-- The four items that PINn_CFG sets, from the word as a number. -/
theorem writePinCfg_eq (p : Fin 8) (w : Word) (s : State) : writePinCfg p w s = s.setPin p {
    mode := if w.toNat % 2 = 1 then .drive else .released
    level := if w.toNat / 2 % 2 = 1 then .high else .low
    style := if w.toNat / 4 % 2 = 1 then .openDrain else .pushPull
    invert := decide (w.toNat / 8 % 2 = 1)
    route := (s.pin p).route } := by
  simp only [writePinCfg, lineOfBit, getLsbD_eq_decide, decide_eq_true_eq, Nat.reducePow, Nat.div_one]

/-- Settles O39: PIN_ROUTE check by check in R109's order, and PINn_CFG bit by bit. -/
theorem pinRouteAndConfiguration : Obligations.PinRouteAndConfiguration := by
  intro s p
  refine ⟨fun h => indexBelow_of_error h fun hn => ?_, fun h hp => ?_, fun w h => ?_⟩
  · simp only [Command.run, cmdPinRoute, hn]
  · refine (exec_rowOf_reply h .pinRoute).trans ?_
    simp only [Command.run, cmdPinRoute_of_index hp, reply_ite, reply_ok, reply_error]
    rfl
  · have hrow : exec (.pinCfgWrite p w) s = .next (completeWord (.pinCfg p) (writePinCfg p w) s) := rfl
    rw [hrow, completeWord_at h, advance_eq, writePinCfg_eq, State.setPin]

end Sys2Proof.Proofs
end

section
/-! SUPPORT. The statements about CAP_SETUP, CAP_START and CAP_STOP: O41 and O42. -/

namespace Sys2Proof.Proofs

open Sys2Proof Sys2Proof.Machine Sys2Proof.Machine.Laws Sys2Proof.Stated

/-! ### CAP_SETUP's argument words as numbers (R124, R186) -/

theorem lowByte_eq_iff (w : Word) (b : BitVec 8) : lowByte w = b ↔ w.toNat % 256 = b.toNat := by
  rw [BitVec.toNat_eq, lowByte_eq, BitVec.toNat_ofNat]

theorem highByte_eq_iff (w : Word) (b : BitVec 8) : highByte w = b ↔ w.toNat / 256 = b.toNat := by
  have hbyte : (highByte w).toNat = w.toNat / 256 := by
    rw [highByte, BitVec.extractLsb'_toNat, Nat.shiftRight_eq_div_pow]
    exact Nat.mod_eq_of_lt (Nat.div_lt_of_lt_mul w.isLt)
  rw [BitVec.toNat_eq, hbyte]

/-- Of two codes 0 and 1, a number above 1 is neither. -/
theorem twoCodes_eq {α : Type} (k : Nat) (x y : α) :
    (if k = 0 then some x else if k = 1 then some y else none)
      = if 1 < k then none else some (if k = 0 then x else y) := by
  rcases k with _ | _ | k <;> simp

theorem modeOfCode_eq (w : Word) : modeOfCode w =
    if 1 < w.toNat % 256 then none else some (if w.toNat % 256 = 0 then .raw else .decode) := by
  rw [← twoCodes_eq]
  simp only [modeOfCode, lowByte_eq_iff, BitVec.reduceToNat]

theorem restOfCode_eq (w : Word) : restOfCode w =
    if 1 < w.toNat / 256 then none else some (if w.toNat / 256 = 0 then .low else .high) := by
  rw [← twoCodes_eq]
  simp only [restOfCode, highByte_eq_iff, BitVec.reduceToNat]

/-- An argument word as an index, where i is the index it would be. -/
theorem index?_eq_ite {n : Nat} {w : Word} {i : Fin n} (h : w.toNat % n = i) :
    index? n w = if n ≤ w.toNat then none else some i := by
  split
  · next hge => exact index?_none hge
  · next hlt => exact index?_some ((Nat.mod_eq_of_lt (Nat.not_le.mp hlt)).symm.trans h)

/-- R124's ranges of CAP_SETUP's arguments after the index: one of them is missed. -/
abbrev SetupArgsBad (s : State) : Prop :=
  7 < (s.arg 1).toNat ∨ 1 < (s.arg 2).toNat % 256 ∨ 1 < (s.arg 2).toNat / 256 ∨ 15 < (s.arg 3).toNat
    ∨ (s.arg 4).toNat = 0 ∨ (s.arg 5).toNat = 0 ∨ 48 < (s.arg 5).toNat

/-- R125's six items, from the argument words as numbers. -/
def argConfig (s : State) (pin : Fin 8) : CaptureConfig :=
  { pin := pin
    mode := if (s.arg 2).toNat % 256 = 0 then .raw else .decode
    rest := if (s.arg 2).toNat / 256 = 0 then .low else .high
    filter := (s.arg 3).toNat
    idle := (s.arg 4).toNat
    threshold := (s.arg 5).toNat }

/-- The model's three decoded codes and its check of the numbers are together R124's ranges. -/
theorem setupConfig_eq {s : State} {pin : Fin 8} (hpin : (s.arg 1).toNat % 8 = pin) :
    setupConfig s = if SetupArgsBad s then none else some (argConfig s pin) := by
  simp only [setupConfig, index?_eq_ite hpin, modeOfCode_eq, restOfCode_eq, Nat.succ_le_iff, SetupArgsBad]
  by_cases hp : 7 < (s.arg 1).toNat
  · simp only [hp, true_or, if_true]
  by_cases hm : 1 < (s.arg 2).toNat % 256
  · simp only [hp, hm, true_or, or_true, if_true, if_false]
  by_cases hr : 1 < (s.arg 2).toNat / 256
  · simp only [hp, hm, hr, true_or, or_true, if_true, if_false]
  · simp only [hp, hm, hr, false_or, if_false, argConfig]

/-! ### CAP_SETUP -/

/-- CAP_SETUP once its unit is known. -/
theorem cmdCapSetup_of_index {s : State} {u : Fin 2} {pin : Fin 8} (hu : (s.arg 0).toNat = u)
    (hpin : (s.arg 1).toNat % 8 = pin) : cmdCapSetup s =
    if (s.captureUnit u).state ≠ .off then .error .busy
    else if SetupArgsBad s then .error .badArg
    else .ok (s.setUnit u { s.captureUnit u with config := argConfig s pin }) := by
  simp only [cmdCapSetup, index?_some hu, setupConfig_eq hpin]
  by_cases hbad : SetupArgsBad s
  · simp only [if_pos hbad]
  · simp only [if_neg hbad, modUnit_eq]

/-- Settles O41: the index, the state and the ranges are checked in R124's order, and R125's six items come whole. -/
theorem capSetupConfiguresAnOffUnit : Obligations.CapSetupConfiguresAnOffUnit := by
  intro s h
  refine ⟨indexBelow_of_error h fun hn => ?_, fun u pin hu hpin => ?_⟩
  · simp only [Command.run, cmdCapSetup, hn]
  · refine (exec_rowOf_reply h .capSetup).trans ?_
    simp only [Command.run, cmdCapSetup_of_index hu hpin, reply_ite, reply_ok, reply_error, State.setUnit, argConfig]

/-! ### The decoder at a frame's end, in the statements' words (R139, R152 to R155) -/

/-- With nothing to take, a decoder's work stays as it is. -/
theorem feed_nil (s : State) (set : List (Fin 64)) (w : Work) : feed s set [] w = w := by
  unfold feed
  cases replayBound (([] : List Item).length + w.list.length) <;> rfl

theorem offerAll_eq_foldl (u : Fin 2) (l : List CaptureRecord) (s : State) :
    offerAll u l s = l.foldl (fun t r => offerRecord u r t) s := by
  induction l generalizing s with
  | nil => rfl
  | cons r l ih => exact ih (offerRecord u r s)

theorem keepWork_eq_decoded (u : Fin 2) (w : Work) (s : State) : keepWork u w s = decoded u w s :=
  offerAll_eq_foldl u w.out _

theorem decodeFlush_eq_decoded (u : Fin 2) (openSpace : Option Phase) (s : State) :
    let c := s.captureUnit u
    decodeFlush u openSpace s = decoded u (flushed s c.decodeSet (feed s c.decodeSet
      (openSpace.toList.map (fun p => { phase := p, isOpen := true })) (workOf c))) s := by
  cases openSpace with
  | none =>
    simp only [Option.toList_none, List.map_nil, feed_nil]
    exact keepWork_eq_decoded u _ s
  | some p => exact keepWork_eq_decoded u _ s

theorem flushUnit_eq_decoderFlush (u : Fin 2) (openSpace : Option Phase) (s : State) :
    flushUnit u openSpace s = decoderFlush u openSpace s := by
  cases hmode : (s.captureUnit u).config.mode with
  | raw => simp only [flushUnit, decoderFlush, hmode, reduceCtorEq, if_false]
  | decode =>
    simp only [flushUnit, decoderFlush, hmode, if_true]
    exact decodeFlush_eq_decoded u openSpace s

/-! ### CAP_START and CAP_STOP -/

/-- CAP_STOP once its unit is known: in IN_FRAME it cuts the frame, whose number the next one follows. -/
theorem cmdCapStop_of_index {s : State} {u : Fin 2} (hu : (s.arg 0).toNat = u) : cmdCapStop s =
    let c := s.captureUnit u
    let off (t : State) (number : BitVec 8) : State :=
      t.setUnit u { t.captureUnit u with state := .off, frameNumber := number }
    match c.state with
    | .off => .error .already
    | .armed _ | .stuck _ => .ok (off s c.frameNumber)
    | .inFrame _ _ phases =>
      .ok (off (offerRecord u (.frameEnd c.frameNumber phases false true) (decoderFlush u none s))
        (c.frameNumber + 1)) := by
  simp only [cmdCapStop, index?_some hu, endFrame, flushUnit_eq_decoderFlush]
  cases (s.captureUnit u).state <;> rfl

/-- Settles O42: CAP_STOP's answer follows the state that its unit is in. -/
theorem capStartAndStop : Obligations.CapStartAndStop := by
  intro s h
  refine ⟨indexBelow_of_error h fun hn => ?_, indexBelow_of_error h fun hn => ?_, fun u hu => ⟨?_, ?_⟩⟩
  · simp only [Command.run, cmdCapStart, hn]
  · simp only [Command.run, cmdCapStop, hn]
  · refine (exec_rowOf_reply h .capStart).trans ?_
    simp only [Command.run, cmdCapStart, index?_some hu, reply_ite, reply_ok, reply_error]
    rfl
  · refine (exec_rowOf_reply h .capStop).trans ?_
    simp only [Command.run, cmdCapStop_of_index hu]
    cases (s.captureUnit u).state <;> rfl

end Sys2Proof.Proofs
end

section
/-! SUPPORT. The statements about the symbol decoder: O45 and O48. -/

namespace Sys2Proof.Proofs

open Sys2Proof Sys2Proof.Machine Sys2Proof.Machine.Laws Sys2Proof.Stated

/-! ### CAP_DECODE_SET -/

/-- Counts raised for the new set and then lowered for the old one move by the difference (R11). -/
theorem lowerRefs_raiseRefs_eq_recount (gone come : List (Fin 64)) (s : State) :
    (s.raiseRefs come).lowerRefs gone = { s with symbols := recount gone come s } := by
  simp only [lowerRefs_eq, raiseRefs_symbol, recount]
  rw [raiseRefs_eq]

/-- R146's effect: the unit holds the new set, and the counts have moved. -/
theorem decodeSet_replaced_eq (u : Fin 2) (gone come : List (Fin 64)) (s : State) :
    ((s.raiseRefs come).lowerRefs gone).modUnit u (fun x => { x with decodeSet := come }) = { s with
      units := s.units.set u { s.captureUnit u with decodeSet := come }
      symbols := recount gone come s } := by
  rw [lowerRefs_raiseRefs_eq_recount]
  -- The unit's update does not depend on the new counts; kept opaque, they are not evaluated.
  generalize recount gone come s = symbols
  rfl

/-- CAP_DECODE_SET once its unit is known: the set is read from STAGE once all its words are known to be in range. -/
theorem cmdCapDecodeSet_of_index {s : State} {u : Fin 2} (hu : (s.arg 0).toNat = u) : cmdCapDecodeSet s =
    if (s.captureUnit u).state ≠ .off then .error .busy
    else if 12 < (s.arg 1).toNat ∨ StageAbove63 s (s.arg 1).toNat then .error .badArg
    else if StageNamesEmpty s (s.arg 1).toNat then .error .notDefined
    else if ¬ (stageIndices s (s.arg 1).toNat).Nodup then .error .duplicate
    else .ok { s with
      units := s.units.set u { s.captureUnit u with decodeSet := stageIndices s (s.arg 1).toNat }
      symbols := recount (s.captureUnit u).decodeSet (stageIndices s (s.arg 1).toNat) s } := by
  simp only [cmdCapDecodeSet, index?_some hu, stageWords_any_above63]
  by_cases hbad : 12 < (s.arg 1).toNat ∨ StageAbove63 s (s.arg 1).toNat
  · simp only [if_pos hbad]
  · have hrange : ¬ StageAbove63 s (s.arg 1).toNat := fun habove => hbad (.inr habove)
    simp only [if_neg hbad, symbolIndices_stageWords hrange, List.any_eq_true, decide_eq_true_eq,
      decodeSet_replaced_eq]

/-- Settles O45: R145's checks in order, and R146's set with the counts that R11 moves. -/
theorem capDecodeSetReplacesTheSet : Obligations.CapDecodeSetReplacesTheSet := by
  intro s h
  refine ⟨indexBelow_of_error h fun hn => ?_, fun u hu => ?_⟩
  · simp only [Command.run, cmdCapDecodeSet, hn]
  · refine (exec_rowOf_reply h .capDecodeSet).trans ?_
    simp only [Command.run, cmdCapDecodeSet_of_index hu, reply_ite, reply_ok, reply_error]

/-! ### Full matches and longer candidates (R148, R153) -/

@[simp] theorem length_itemPhases (l : List Item) : (itemPhases l).length = l.length := List.length_map _

@[simp] theorem endsOpen_append_singleton (l : List Item) (x : Item) : endsOpen (l ++ [x]) = x.isOpen := by
  simp only [endsOpen, List.getLast?_concat]

/-- A member's being a full match does not turn on whether the list ends in the open space: a full match has no position
after the list's last. -/
theorem firstFull_eq_find? (s : State) (set : List (Fin 64)) (l : List Item) :
    firstFull s set l = set.find? (fun m => (s.symbol m).fullMatch (itemPhases l)) := by
  rw [firstFull, candidates, List.find?_filter]
  congr 1
  funext m
  rw [Bool.eq_iff_iff]
  simp only [isCandidate, Bool.and_eq_true, Bool.or_eq_true, decide_eq_true_eq, fullMatch_iff, length_itemPhases]
  exact ⟨fun ⟨⟨hbegins, _⟩, hlen⟩ => ⟨hbegins, hlen.symm⟩,
    fun ⟨hbegins, hlen⟩ => ⟨⟨hbegins, .inr hlen.symm⟩, hlen.symm⟩⟩

theorem firstFull_eq_none_iff {s : State} {set : List (Fin 64)} {l : List Item} :
    firstFull s set l = none ↔ ∀ m ∈ set, ¬ (s.symbol m).fullMatch (itemPhases l) = true := by
  rw [firstFull_eq_find?, List.find?_eq_none]

/-- Set order decides between full matches: the first is the one with none before it. -/
theorem firstFull_of_none_before {s : State} {before after : List (Fin 64)} {m : Fin 64} {l : List Item}
    (hbefore : ∀ k ∈ before, ¬ (s.symbol k).fullMatch (itemPhases l) = true)
    (hm : (s.symbol m).fullMatch (itemPhases l) = true) : firstFull s (before ++ m :: after) l = some m := by
  rw [firstFull_eq_find?, List.find?_append, List.find?_eq_none.mpr hbefore, Option.none_or,
    List.find?_cons_of_pos (p := fun k => (s.symbol k).fullMatch (itemPhases l)) hm]

/-- While the list ends in a closed phase, every longer member that begins with the list is a longer candidate. -/
theorem hasLonger_iff_of_closed {s : State} {set : List (Fin 64)} {l : List Item} (hclosed : endsOpen l = false) :
    hasLonger s set l = true ↔
      ∃ m ∈ set, (s.symbol m).beginsWith (itemPhases l) = true ∧ l.length < (s.symbol m).lengths.length := by
  simp only [hasLonger, List.any_eq_true, candidates, List.mem_filter, isCandidate, hclosed, Bool.not_false,
    Bool.true_or, Bool.and_true, decide_eq_true_eq, and_assoc]

/-- The open space reaches a candidate's last position, so no candidate is longer than the list that it ends. -/
theorem hasLonger_of_open {s : State} {set : List (Fin 64)} {l : List Item} (hopen : endsOpen l = true) :
    hasLonger s set l = false := by
  rw [← Bool.not_eq_true]
  intro hlonger
  obtain ⟨m, -, hcandidate, hlen⟩ := hasLonger_spec hlonger
  simp only [isCandidate, hopen, Bool.not_true, Bool.false_or, Bool.and_eq_true, decide_eq_true_eq] at hcandidate
  exact absurd hcandidate.2 (Nat.ne_of_gt hlen)

/-! ### The cases of R149's table -/

section
variable {s : State} {set : List (Fin 64)} {x : Item} {w : Work}

theorem takeItem_of_full {m : Fin 64} (hfull : firstFull s set (w.list ++ [x]) = some m)
    (hlonger : hasLonger s set (w.list ++ [x]) = false) :
    takeItem s set x w = ({ list := [], held := none, out := w.out ++ [.symbol m (s.symbol m).code] }, []) := by
  simp only [takeItem, hfull, hlonger, symbolRecord]

theorem takeItem_of_full_longer {m : Fin 64} (hfull : firstFull s set (w.list ++ [x]) = some m)
    (hlonger : hasLonger s set (w.list ++ [x]) = true) :
    takeItem s set x w = ({
      list := w.list ++ [x]
      held := some { member := m, length := (w.list ++ [x]).length }
      out := w.out }, []) := by
  simp only [takeItem, hfull, hlonger]

theorem takeItem_of_longer (hfull : firstFull s set (w.list ++ [x]) = none)
    (hlonger : hasLonger s set (w.list ++ [x]) = true) :
    takeItem s set x w = ({ list := w.list ++ [x], held := w.held, out := w.out }, []) := by
  simp only [takeItem, hfull, hlonger]

/-- The fallback (R150): to the held match, or past the oldest phase. -/
theorem takeItem_of_no_candidate (hfull : firstFull s set (w.list ++ [x]) = none)
    (hlonger : hasLonger s set (w.list ++ [x]) = false) :
    (∀ h, w.held = some h → takeItem s set x w
      = ({ list := [], held := none, out := w.out ++ [.symbol h.member (s.symbol h.member).code] },
        (w.list ++ [x]).drop h.length))
    ∧ (w.held = none → ∀ y rest, w.list ++ [x] = y :: rest → takeItem s set x w
      = ({ list := [], held := none, out := w.out ++ [.noMatch y.phase.level y.phase.length] }, rest)) := by
  simp only [takeItem, hfull, hlonger, fallBack]
  refine ⟨fun h hheld => ?_, fun hheld y rest hlist => ?_⟩
  · simp only [hheld, symbolRecord]
  · simp only [hheld, hlist, noMatchRecord]

end

/-- Settles O48: each clause is the row of R149's table that its full matches and longer candidates select. -/
theorem decoderTakesAPhaseByTheTable : Obligations.DecoderTakesAPhaseByTheTable := by
  intro s set p w _
  have hclosed := hasLonger_iff_of_closed (s := s) (set := set)
    (endsOpen_append_singleton w.list { phase := p, isOpen := false })
  have hopen := hasLonger_of_open (s := s) (set := set)
    (endsOpen_append_singleton w.list { phase := p, isOpen := true })
  have hphases : itemPhases (w.list ++ [{ phase := p, isOpen := true }])
      = itemPhases (w.list ++ [{ phase := p, isOpen := false }]) := by
    simp only [itemPhases, List.map_append, List.map_cons, List.map_nil]
  refine ⟨?full, ?longer, ?noCandidate, ?openFull, ?openNone⟩
  case full =>
    rintro before m after rfl hbefore hm
    have hfirst := firstFull_of_none_before (after := after) hbefore hm
    exact ⟨fun hno => takeItem_of_full hfirst (Bool.eq_false_iff.mpr (mt hclosed.mp hno)),
      fun hlonger => takeItem_of_full_longer hfirst (hclosed.mpr hlonger)⟩
  case longer =>
    exact fun hnone hlonger => takeItem_of_longer (firstFull_eq_none_iff.mpr hnone) (hclosed.mpr hlonger)
  case noCandidate =>
    intro hbegins
    have hnone : firstFull s set (w.list ++ [{ phase := p, isOpen := false }]) = none :=
      firstFull_eq_none_iff.mpr fun m hm hfull => Bool.eq_false_iff.mp (hbegins m hm) ((fullMatch_iff _ _).mp hfull).1
    have hshort : hasLonger s set (w.list ++ [{ phase := p, isOpen := false }]) = false := by
      refine Bool.eq_false_iff.mpr fun hlonger => ?_
      obtain ⟨m, hm, hbegin, _⟩ := hclosed.mp hlonger
      exact Bool.eq_false_iff.mp (hbegins m hm) hbegin
    exact takeItem_of_no_candidate hnone hshort
  case openFull =>
    rintro before m after rfl hbefore hm
    exact takeItem_of_full (firstFull_of_none_before (hphases ▸ hbefore) (hphases ▸ hm)) hopen
  case openNone =>
    exact fun hnone => takeItem_of_no_candidate (firstFull_eq_none_iff.mpr (hphases ▸ hnone)) hopen

end Sys2Proof.Proofs
end

section
/-! SUPPORT. The statement about the capture logs: O49. -/

namespace Sys2Proof.Proofs

open Sys2Proof Sys2Proof.Machine Sys2Proof.Machine.Laws Sys2Proof.Stated

/-! ### A record offered to a log (R160, R161) -/

section

variable (u : Fin 2) (r : CaptureRecord) {s : State}

/-- A record enters a log, and CAPn_DATA is set when the count reaches the threshold (R164). -/
theorem enterCaptureLog_eq_setWhen (s : State) :
    let c := s.captureUnit u
    enterCaptureLog u r s = setWhen (c.log.length + 1 = c.config.threshold) (.capData u)
      (s.setUnit u { c with log := c.log ++ [r] }) := rfl

theorem offerRecord_of_room (hroom : (s.captureUnit u).log.length ≤ 46) :
    offerRecord u r s = enterCaptureLog u r s := by
  obtain ⟨_, heq⟩ | ⟨hlast, _⟩ | ⟨hfull, _⟩ := offerRecord_cases u r s
  · exact heq
  · omega
  · omega

/-- The last free entry after a data record takes an OVERRUN record (R160, R165). -/
theorem offerRecord_of_last_entry (hlast : (s.captureUnit u).log.length = 47)
    (hdata : youngestIsOverrun (s.captureUnit u).log = false) :
    offerRecord u r s = State.setFlag (.capOvr u) (enterCaptureLog u (.overrun 1) s) := by
  obtain ⟨hroom, _⟩ | ⟨_, _, heq⟩ | ⟨_, hoverrun, _⟩ := offerRecord_cases u r s
  · omega
  · exact heq
  · exact absurd (hoverrun hlast) (Bool.eq_false_iff.mp hdata)

/-- With at most one entry free, the youngest OVERRUN record counts what is lost (R161). -/
theorem offerRecord_of_overrun {l : List CaptureRecord} {k : Nat}
    (hlog : (s.captureUnit u).log = l ++ [.overrun k]) (hfull : 47 ≤ (s.captureUnit u).log.length) :
    offerRecord u r s =
      s.setUnit u { s.captureUnit u with log := l ++ [.overrun (min 255 (k + 1))] } := by
  have hyoungest : youngestIsOverrun (s.captureUnit u).log = true := by
    rw [hlog, youngestIsOverrun_append, CaptureRecord.isOverrun]
  obtain ⟨hroom, _⟩ | ⟨_, hdata, _⟩ | ⟨_, _, heq⟩ := offerRecord_cases u r s
  · omega
  · exact absurd hyoungest (Bool.eq_false_iff.mp hdata)
  · rw [heq, hlog, changeYoungest_append, CaptureRecord.raiseLost, saturate255]

end

theorem isOverrun_eq_false {x : CaptureRecord} (hx : ∀ k, x ≠ .overrun k) : x.isOverrun = false := by
  cases x with
  | overrun k => exact absurd rfl (hx k)
  | _ => rfl

/-! ### CAP_POP -/

/-- CAP_POP once its unit is known (R162). -/
theorem cmdCapPop_of_index {s : State} {u : Fin 2} (hu : (s.arg 0).toNat = u) : cmdCapPop s =
    match (s.captureUnit u).log with
    | [] => .error .empty
    | x :: rest => .ok { s.setUnit u { s.captureUnit u with log := rest } with capOut := x.words u } := by
  simp only [cmdCapPop, index?_some hu]
  cases (s.captureUnit u).log <;> rfl

/-- Settles O49: an offer by the free entries and the kind of the youngest record, and CAP_POP by whether there is an
oldest one. -/
theorem captureLogTakesAndGives : Obligations.CaptureLogTakesAndGives := by
  intro s u r
  refine ⟨fun hroom => ?room, fun l x hlog hlast hx => ?last, fun l k hlog hfull => ?overrun,
    fun h => indexBelow_of_error h fun hn => ?index, fun h hu => ?pop⟩
  case room =>
    rw [offerRecord_of_room u r hroom, enterCaptureLog_eq_setWhen]
    rfl
  case last =>
    have hdata : youngestIsOverrun (s.captureUnit u).log = false := by
      rw [hlog, youngestIsOverrun_append, isOverrun_eq_false hx]
    rw [offerRecord_of_last_entry u r hlast hdata, enterCaptureLog_eq_setWhen]
    simp only [hlast, Nat.reduceAdd, eq_comm (a := 48)]
    rfl
  case overrun => exact offerRecord_of_overrun u r hlog hfull
  case index => simp only [Command.run, cmdCapPop, hn]
  case pop =>
    refine (exec_rowOf_reply h .capPop).trans ?_
    simp only [Command.run, cmdCapPop_of_index hu]
    cases (s.captureUnit u).log <;> rfl

end Sys2Proof.Proofs
end

section
/-! SUPPORT. The statements about the queue's front, CMD, the register window, codes and addresses: O1, O4 to O7. -/

namespace Sys2Proof.Proofs

open Sys2Proof Sys2Proof.Machine Sys2Proof.Machine.Laws Sys2Proof.Stated

/-- Settles O1: the queue's front decides between the two arms of a step. -/
theorem stepRunsTheFrontOfTheQueue : Obligations.StepRunsTheFrontOfTheQueue := by
  intro i rest s h
  simp only [step, h]

/-- Settles O4: a command row at CMD answers the result of its checks. -/
theorem refusedCommandChangesOnlyResult : Obligations.RefusedCommandChangesOnlyResult :=
  fun _ _ _ h hf => exec_rowOf_error h hf

/-! ### Codes and addresses -/

theorem ofCode_code (c : Command) : Command.ofCode c.code = some c := by
  cases c <;> rfl

theorem code_of_ofCode {code : BitVec 8} {c : Command} (h : Command.ofCode code = some c) : c.code = code := by
  simpa using List.find?_some h

/-- A code that is no command's names none. -/
theorem ofCode_eq_none {code : BitVec 8} (h : ∀ c : Command, code ≠ c.code) : Command.ofCode code = none := by
  cases hc : Command.ofCode code with
  | none => rfl
  | some c => exact absurd (code_of_ofCode hc).symm (h c)

/-- Each row of R185's table, entry by entry: the address that the table prints, and the register found there. -/
theorem addr_table (r : Reg) : Reg.ofAddr r.addr = r ∧ r.addr.toNat = addressNumber r := by
  cases r with
  | arg i | stage i | clOut i | capOut i | capStatus i | evtPend i | evtEn i | txCtrl i | txStatus i | cgPeriod i
  | cgHigh i | cgCtrl i | pinCfg i | pinRoute i => revert i; decide
  | cmd | result | clStatus | timebase | pinSense => decide

/-- Settles O7: codes by command, addresses by R185's table and over the 64 six-bit addresses. -/
theorem codesAndAddressesAgree : Obligations.CodesAndAddressesAgree :=
  ⟨ofCode_code, fun _ _ h => code_of_ofCode h, fun r => (addr_table r).1, by decide,
    fun c => by cases c <;> rfl, fun r => (addr_table r).2⟩

/-! ### Words completed at a register -/

/-- A word's row at its own register: the effect, then the pointer. -/
theorem completeWord_moved {r : Reg} {s : State} (h : s.AtWrite r) (f : State → State) :
    completeWord r f s = moved (f s) := (completeWord_at h f).trans (advance_eq (f s))

/-- REGISTER_WRITE acts on the register that the pointer names. -/
theorem exec_registerWrite_at {r : Reg} {s : State} (h : s.AtWrite r) (w : Word) :
    exec (.registerWrite w) s = .next (completeWord r (writeReg r w) s) := by
  obtain ⟨-, -, -, hr⟩ := h
  subst hr
  rfl

theorem exec_registerWrite_moved {r : Reg} {s : State} (h : s.AtWrite r) (w : Word) :
    exec (.registerWrite w) s = .next (moved (writeReg r w s)) := by
  rw [exec_registerWrite_at h, completeWord_moved h]

/-- Settles O5: the low byte of the word is looked up among the codes, and the row of the command it names is the same
operation. -/
theorem cmdWordRunsTheCommandItNames : Obligations.CmdWordRunsTheCommandItNames := by
  intro w s h code
  have hwrite := exec_registerWrite_at h w
  have hcode : lowByte w = code := lowByte_eq w
  refine ⟨fun c hc => ?_, fun hc => ⟨?_, ?_⟩⟩
  · rw [hwrite, exec_rowOf, commandWord, completeWord_at h, completeWord_at h, writeReg, writeCmd, hcode, hc,
      ofCode_code]
  · rw [hwrite, completeWord_moved h, writeReg, writeCmd, hcode, ofCode_eq_none hc]
    rfl
  · refine (congrArg Host.Outcome.next (if_pos (ofCode_eq_none hc))).trans ?_
    rw [completeWord_moved h]
    rfl

/-- A word of CGx_CTRL with enable 1 is CARRIER_ENABLE, and one with enable 0 is CARRIER_DISABLE. -/
theorem exec_carrierCtrl_row (g : Fin 2) (w : Word) (s : State) :
    exec (if w.toNat % 2 = 1 then .carrierEnable g else .carrierDisable g) s
      = .next (completeWord (.cgCtrl g) (writeReg (.cgCtrl g) w) s) := by
  have hbit : w.getLsbD 0 = decide (w.toNat % 2 = 1) := by simpa using getLsbD_eq_decide w 0
  have hwrite : writeReg (.cgCtrl g) w = writeCarrierCtrl g (w.getLsbD 0) := rfl
  rw [hwrite, hbit]
  by_cases h : w.toNat % 2 = 1
  · simp only [h, if_true, decide_true]
    rfl
  · simp only [h, if_false, decide_false]
    rfl

/-- Settles O6, register by register: each row of its own is the same operation on the same word. -/
theorem registerWriteFollowsThePointer : Obligations.RegisterWriteFollowsThePointer := by
  intro w s
  refine ⟨fun i h => exec_registerWrite_moved h w, fun i h => exec_registerWrite_moved h w, fun r h hr => ?readOnly,
    fun n h => exec_registerWrite_at h w, fun g h => exec_registerWrite_at h w, fun g h => exec_registerWrite_at h w,
    fun g h => (exec_registerWrite_at h w).trans (exec_carrierCtrl_row g w s).symm,
    fun p h => exec_registerWrite_at h w, fun e h => exec_registerWrite_at h w, fun e h => exec_registerWrite_at h w⟩
  case readOnly =>
    rw [exec_registerWrite_moved h]
    rcases hr with ⟨i, rfl⟩ | ⟨i, rfl⟩ | ⟨u, rfl⟩ | ⟨n, rfl⟩ | ⟨p, rfl⟩ | rfl | rfl | rfl | rfl <;> rfl

end Sys2Proof.Proofs
end

section
/-! SUPPORT. The rows that cannot come about where the device stands: O10. -/

namespace Sys2Proof.Proofs

open Sys2Proof Sys2Proof.Machine Sys2Proof.Machine.Laws Sys2Proof.Stated

/-! ### Events whose condition does not hold -/

/-- An event that leaves the state leaves it in a full reset too. -/
theorem internalEvent_of_id {f : State → State} {s : State} (h : f s = s) : internalEvent f s = s := by
  unfold internalEvent
  split
  · rfl
  · exact h

section
variable {s : State} {n : Fin 4} {u : Fin 2}

theorem startHead_of_not_due (h : ¬ DueRow s (.startHead n)) : startHead n s = s := by
  refine if_neg fun ⟨hdue, hidle, hstart⟩ => h ?_
  obtain ⟨hen, hq⟩ := (canStart_iff _).mp hstart
  exact ⟨hdue, hidle, hen, hq⟩

theorem phaseEnd_of_not_due (h : ¬ DueRow s (.phaseEnd n)) : phaseEnd n s = s := by
  unfold phaseEnd
  split
  · next c d rest hst hq => exact if_neg fun h0 => h ⟨c, hst, h0, by simp [hq]⟩
  · rfl

theorem gapEnd_of_not_due (h : ¬ DueRow s (.gapEnd n)) : gapEnd n s = s := by
  unfold gapEnd
  split
  · next c d rest hst hq => exact if_neg fun h0 => h ⟨c, hst, h0, by simp [hq]⟩
  · rfl

theorem resumeTaken_of_not_due (h : ¬ DueRow s (.resumeTaken n)) : resumeTaken n s = s := by
  unfold resumeTaken
  simp only
  split
  · next hdue =>
    split
    · next c d rest hst hq => exact absurd ⟨hdue.1, hdue.2, .inr ⟨c, hst, by simp [hq]⟩⟩ h
    · next hst => exact absurd ⟨hdue.1, hdue.2, .inl hst⟩ h
    · rfl
  · rfl

/-- The filter run decides an accepted edge, in whichever state the filter stands. -/
theorem acceptedEdge_of_not_due (h : ¬ DueRow s (.acceptedEdge u)) : acceptedEdge u s = s := by
  have hrun : ∀ f, filterOf (s.captureUnit u).state = some f → edgeReached (s.captureUnit u).config f = false :=
    fun f hf => by
      refine Bool.eq_false_iff.mpr fun hr => h ⟨f, hf, ?_⟩
      simpa [edgeReached] using hr
  unfold acceptedEdge
  simp only
  split
  · rfl
  · rfl
  · next f hst => simp [hrun f (by rw [hst]; rfl)]
  · next f age phases hst => simp [hrun f (by rw [hst]; rfl)]
  · next f hst => simp [hrun f (by rw [hst]; rfl)]

theorem idleReached_iff (c : CaptureUnit) : idleReached c = true ↔
    ∃ f age phases, c.state = .inFrame f age phases ∧ f.accepted = .space ∧ f.run = 0 ∧ c.config.idle ≤ age + 1 := by
  unfold idleReached
  cases c.state <;> simp [and_assoc]

theorem stuckReached_iff (c : CaptureUnit) : stuckReached c = true ↔
    ∃ f age phases, c.state = .inFrame f age phases ∧ f.accepted = .mark ∧ f.run = 0 ∧ 65535 ≤ age + 1 := by
  unfold stuckReached
  cases c.state <;> simp [and_assoc]

theorem idleTimeout_of_not_due (h : ¬ DueRow s (.idleTimeout u)) : idleTimeout u s = s := by
  unfold idleTimeout
  split
  · exact if_neg fun hr => h ((idleReached_iff _).mp hr)
  · rfl

theorem stuckMark_of_not_due (h : ¬ DueRow s (.stuckMark u)) : stuckMark u s = s := by
  unfold stuckMark
  split
  · exact if_neg fun hr => h ((stuckReached_iff _).mp hr)
  · rfl

end

/-! ### A full reset -/

/-- In a full reset no word is completed, no header and no read word, and no event of a block comes about. -/
theorem exec_in_reset {s : State} (h : s.inReset = true) {i : Instr} (hbegin : i ≠ .frameBegin) (hrise : i ≠ .selRise)
    (hreset : ∀ c, i ≠ .fullReset c ∧ i ≠ .fullResetEnd c) : exec i s = .next s := by
  have hat : ∀ r, ¬ s.AtWrite r := fun r ⟨h0, _⟩ => Bool.eq_false_iff.mp h0 h
  have hword : ∀ r f, completeWord r f s = s := fun r f => completeWord_elsewhere (hat r) f
  have hevent : ∀ f, internalEvent f s = s := internalEvent_reset h
  cases i with
  | frameBegin => exact absurd rfl hbegin
  | selRise => exact absurd rfl hrise
  | fullReset c => exact absurd rfl (hreset c).1
  | fullResetEnd c => exact absurd rfl (hreset c).2
  | header byte => exact congrArg Host.Outcome.next (if_neg fun ⟨h0, _⟩ => Bool.eq_false_iff.mp h0 h)
  | readWordCompletion => exact congrArg Host.Outcome.next (if_neg fun ⟨h0, _⟩ => Bool.eq_false_iff.mp h0 h)
  | badCommand code => exact congrArg Host.Outcome.next ((if_congr Iff.rfl (hword _ _) rfl).trans (ite_self s))
  | beatEvent | startHead | phaseEnd | gapEnd | recordAdmission | resumeTaken | carrierPeriodEnd | carrierHighTimeEnd
  | acceptedEdge | idleTimeout | stuckMark => exact congrArg Host.Outcome.next (hevent _)
  | _ => exact congrArg Host.Outcome.next (hword _ _)

/-- Settles O10: words by R176's and R178's place, events by their conditions, and the rest by the full reset. -/
theorem rowsOutOfPlaceDoNothing : Obligations.RowsOutOfPlaceDoNothing := by
  intro s
  have hword : ∀ {r f}, ¬ s.AtWrite r → (.next (completeWord r f s) : Host.Outcome State Fault Refusal) = .next s :=
    fun h => congrArg Host.Outcome.next (completeWord_elsewhere h _)
  have hevent : ∀ {f : State → State}, f s = s →
      (.next (internalEvent f s) : Host.Outcome State Fault Refusal) = .next s :=
    fun h => congrArg Host.Outcome.next (internalEvent_of_id h)
  refine ⟨fun h => ⟨fun c => ?command, fun code => ?bad⟩, fun h w => ?word, fun n f w h => ⟨hword h, hword h, hword h⟩,
    fun g w => ⟨hword, hword, fun h => ⟨hword h, hword h⟩⟩, fun p w => hword, fun r w => ⟨hword, hword⟩,
    fun h byte => congrArg Host.Outcome.next (if_neg fun k => h k.2),
    fun h => congrArg Host.Outcome.next (if_neg ?read),
    fun n => ⟨fun h => hevent (startHead_of_not_due h), fun h => hevent (phaseEnd_of_not_due h),
      fun h => hevent (gapEnd_of_not_due h), fun h => hevent (resumeTaken_of_not_due h)⟩,
    fun u => ⟨fun h => hevent (acceptedEdge_of_not_due h), fun h => hevent (idleTimeout_of_not_due h),
      fun h => hevent (stuckMark_of_not_due h)⟩,
    fun g => ⟨fun h => hevent (if_neg ?period), fun h => hevent (if_neg ?high)⟩,
    fun h => congrArg Host.Outcome.next (if_pos h),
    fun h c => congrArg Host.Outcome.next (if_neg (Bool.eq_false_iff.mp h)),
    fun c => congrArg Host.Outcome.next (if_neg (by simp [ofCode_code])),
    fun h i hbegin hrise hreset => exec_in_reset h hbegin hrise hreset⟩
  case command => rw [exec_rowOf, commandWord, completeWord_elsewhere h]
  case bad => exact congrArg Host.Outcome.next ((if_congr Iff.rfl (completeWord_elsewhere h _) rfl).trans (ite_self s))
  case word =>
    refine hword fun ⟨_, hphase, hdir, _⟩ => ?_
    rcases h with h | h
    · exact h hphase
    · exact absurd (hdir.symm.trans h) (by decide)
  case read =>
    rintro ⟨_, hphase, hdir⟩
    rcases h with h | h
    · exact h hphase
    · exact absurd (hdir.symm.trans h) (by decide)
  case period =>
    rintro ⟨hen, hout⟩
    rcases h with h | h
    · exact absurd (hen.symm.trans h) (by decide)
    · exact absurd (hout.symm.trans h) (by decide)
  case high =>
    rintro ⟨hen, hout⟩
    rcases h with h | h
    · exact absurd (hen.symm.trans h) (by decide)
    · exact absurd (hout.symm.trans h) (by decide)

end Sys2Proof.Proofs
end

section
/-! SUPPORT. The statements about the host port's frames and the resets: O11 to O14. -/

namespace Sys2Proof.Proofs

open Sys2Proof Sys2Proof.Machine Sys2Proof.Machine.Laws Sys2Proof.Stated

/-! ### SEL# and SDO -/

/-- Settles O11: each line's row, and SDO by the phase and the direction of the frame. -/
theorem selBeginsAndEndsAFrame : Obligations.SelBeginsAndEndsAFrame := by
  intro s
  refine ⟨fun hsel hr => ?_, fun hsel hr => ?_, rfl, fun h => if_pos h, fun hsel hr => ?driven⟩
  · refine congrArg Host.Outcome.next ?_
    simp only [frameBegin, hsel, hr, Bool.false_eq_true, if_false]
  · refine congrArg Host.Outcome.next ?_
    simp only [frameBegin, hsel, hr, Bool.false_eq_true, if_false, if_true]
  case driven =>
    have hdriven : ¬ (s.selLow = false ∨ s.inReset = true) := by simp [hsel, hr]
    refine ⟨fun hp => ?_, fun hp => ?_, fun hp hd => ?_, fun hp hd hb => ?_⟩
    · simp only [State.sdo, if_neg hdriven, hp]
    · simp only [State.sdo, if_neg hdriven, hp]
    · simp only [State.sdo, if_neg hdriven, hp, hd]
    · have hmsb : s.port.shift.getLsbD 15 = decide (2 ^ 15 ≤ s.port.shift.toNat) := by
        simpa [BitVec.msb_eq_getLsbD_last] using BitVec.msb_eq_decide s.port.shift
      simp only [State.sdo, if_neg hdriven, hp, hd, hb, Nat.sub_zero, hmsb]

/-! ### Headers and read words -/

/-- The port does not show in a register. -/
theorem readReg_setPort (r : Reg) (p : Port) (s : State) : readReg r { s with port := p } = readReg r s := by
  cases r <;> rfl

/-- A snapshot after the port has moved: only the shift register and the counter of free values follow. -/
theorem loadSnapshot_setPort (p : Port) (s : State) :
    loadSnapshot { s with port := p } = { s with
      port := { p with shift := readReg (Reg.ofAddr p.pointer) s }
      freeCount := if Reg.ofAddr p.pointer = .pinSense then s.freeCount + 1 else s.freeCount } := by
  simp only [loadSnapshot, readReg_setPort]

theorem getLsbD_eq_decide_byte (b : BitVec 8) (i : Nat) : b.getLsbD i = decide (b.toNat / 2 ^ i % 2 = 1) := by
  rw [BitVec.getLsbD, Nat.testBit_eq_decide_div_mod_eq]

theorem headerReads_eq (b : BitVec 8) : headerReads b = decide (¬ b.toNat < 128) := by
  have := b.isLt
  rw [headerReads, getLsbD_eq_decide_byte]
  exact decide_eq_decide.mpr (by omega)

theorem headerInhibits_eq (b : BitVec 8) : headerInhibits b = decide (64 ≤ b.toNat % 128) := by
  rw [headerInhibits, getLsbD_eq_decide_byte]
  exact decide_eq_decide.mpr (by omega)

theorem headerAddr_eq (b : BitVec 8) : headerAddr b = BitVec.ofNat 6 b.toNat := by
  refine BitVec.eq_of_toNat_eq ?_
  simp [headerAddr]

/-- The pointer after a completed word, with its wrap written out (R176). -/
theorem advance_ofNat (p : Port) : p.advance = { p with
    pointer := if p.inhibit then p.pointer else BitVec.ofNat 6 ((p.pointer.toNat + 1) % 64) } := by
  have hstep : p.pointer + 1 = BitVec.ofNat 6 ((p.pointer.toNat + 1) % 64) :=
    BitVec.eq_of_toNat_eq (by simp)
  rw [Port.advance, hstep]
  split <;> rfl

/-- Settles O12: the header's fields as numbers, and a snapshot that changes the shift register alone. -/
theorem headerAndReadWords : Obligations.HeaderAndReadWords := by
  intro s hr draws
  refine ⟨fun b hp => ?header, fun hp hd => ?word⟩
  case header =>
    refine congrArg Host.Outcome.next ((if_pos ⟨hr, hp⟩).trans ?_)
    simp only [loadSnapshot_setPort, headerReads_eq, headerInhibits_eq, headerAddr_eq]
    by_cases h : b.toNat < 128
    · simp only [h, not_true_eq_false, decide_false, Bool.false_eq_true, if_false, if_true]
    · simp only [h, not_false_eq_true, decide_true, if_false, if_true]
      rfl
  case word =>
    refine congrArg Host.Outcome.next ((if_pos ⟨hr, hp, hd⟩).trans ?_)
    rw [loadSnapshot_setPort, advance_ofNat]

/-! ### Resets -/

/-- The word that R185 gives a register after a full reset. -/
def resetWord : Reg → Nat
  | .cgPeriod _ => 2
  | .cgHigh _ => 1
  | _ => 0

theorem readReg_reset {r : Reg} (h : r ≠ .pinSense) : (readReg r State.reset).toNat = resetWord r := by
  cases r with
  | pinSense => exact absurd rfl h
  | arg i | stage i | clOut i | capOut i | capStatus i | evtPend i | evtEn i | txCtrl i | txStatus i | cgPeriod i
  | cgHigh i | cgCtrl i | pinCfg i | pinRoute i => clear h; revert i; decide
  | cmd | result | clStatus | timebase => rfl

/-- No flag is pending or enabled after a full reset. -/
theorem flag_reset (f : Flag) : State.reset.flag f = false ∧ State.reset.flagEnabled f = false := by
  simp [State.flag, State.flagEnabled, State.reset]

/-- Settles O13: the reset's values stand in State.reset, table by table. -/
theorem fullResetSetsEveryItem : Obligations.FullResetSetsEveryItem := by
  refine ⟨fun s => ⟨rfl, rfl, fun hr => ⟨congrArg Host.Outcome.next (if_pos hr), congrArg Host.Outcome.next (if_pos hr)⟩⟩,
    fun r hr => (readReg_reset hr).trans (by cases r <;> rfl), ?_, ?_, ?_, rfl, rfl, rfl, rfl, ?_, ?_, ?_, flag_reset, rfl⟩
  all_goals decide

theorem eq_ofFn {α : Type} {n : Nat} {v : Vector α n} {f : Fin n → α} (h : ∀ i : Fin n, v[i] = f i) :
    v = Vector.ofFn f :=
  Vector.ext fun i hi => by simpa using h ⟨i, hi⟩

/-- Settles O14: R184's items, table by table. -/
theorem engineResetStopsAndKeeps : Obligations.EngineResetStopsAndKeeps := by
  intro s h
  refine (exec_rowOf_ok h (c := .engineReset) rfl).trans ?_
  have hslots : (engineReset s).slots = Vector.ofFn fun i => { s.slot i with frames := 0 } :=
    eq_ofFn fun i => by simp [engineReset, State.slot]
  have hchannels : (engineReset s).channels = Vector.ofFn fun n => { Channel.reset with
      enabled := (s.channel n).enabled, watermark := (s.channel n).watermark } :=
    eq_ofFn fun n => by simp [engineReset, State.channel, Channel.engineReset, Channel.reset]
  have hunits : (engineReset s).units = Vector.ofFn fun u => { CaptureUnit.reset with
      config := (s.captureUnit u).config, decodeSet := (s.captureUnit u).decodeSet } :=
    eq_ofFn fun u => by simp [engineReset, State.captureUnit, CaptureUnit.engineReset, CaptureUnit.reset]
  rw [← hslots, ← hchannels, ← hunits]
  rfl

end Sys2Proof.Proofs
end

section
/-! SUPPORT. The statements about the event unit and the state after a full reset: O50, O51 and O52. -/

namespace Sys2Proof.Proofs

open Sys2Proof Sys2Proof.Machine Sys2Proof.Machine.Laws Sys2Proof.Stated

/-! ### The places of the flags (R168, R186) -/

/-- The flag at a position of EVT_PEND0 or EVT_PEND1, where one stands there. -/
def flagAt (r : Fin 2) (b : Nat) : Flag :=
  if r = 0 then
    if b < 4 then .txDone (Fin.ofNat 4 b) else if b < 8 then .txLow (Fin.ofNat 4 b)
    else if b < 12 then .txHeld (Fin.ofNat 4 b) else .clFull
  else if b % 4 = 0 then .capData (Fin.ofNat 2 (b / 4)) else if b % 4 = 1 then .capFrame (Fin.ofNat 2 (b / 4))
  else if b % 4 = 2 then .capOvr (Fin.ofNat 2 (b / 4)) else .capStuck (Fin.ofNat 2 (b / 4))

/-- The number of positions of a register that hold a flag. -/
def flagCount (r : Fin 2) : Nat := if r = 0 then 13 else 8

theorem flag_place (f : Flag) :
    flagAt f.reg f.bit = f ∧ f.bit < flagCount f.reg ∧ (f.reg.val, f.bit) = flagPlace f := by
  cases f with
  | clFull => decide
  | txDone i | txLow i | txHeld i | capData i | capFrame i | capOvr i | capStuck i => revert i; decide

theorem flagAt_place (r : Fin 2) (b : Nat) (h : b < flagCount r) : (flagAt r b).reg = r ∧ (flagAt r b).bit = b := by
  revert r b
  decide

theorem flagCount_le (r : Fin 2) : flagCount r ≤ 13 := by
  revert r
  decide

theorem flag_bit_lt (f : Flag) : f.bit < 16 :=
  ((flag_place f).2.1.trans_le (flagCount_le _)).trans (by decide)

/-- The 21 places are different. -/
theorem flag_ext {f g : Flag} (hreg : f.reg = g.reg) (hbit : f.bit = g.bit) : f = g := by
  rw [← (flag_place f).1, ← (flag_place g).1, hreg, hbit]

/-- Setting a flag adds that flag and no other. -/
theorem setFlag_flag (s : State) (f g : Flag) : (State.setFlag f s).flag g = (s.flag g || decide (f = g)) := by
  simp only [State.flag, State.setFlag]
  by_cases hreg : f.reg = g.reg
  · have hbit : decide (f.bit = g.bit) = decide (f = g) :=
      decide_eq_decide.mpr ⟨flag_ext hreg, fun h => h ▸ rfl⟩
    simp [hreg, flag_bit_lt, ← hbit, eq_comm]
  · have hne : ¬ f = g := fun h => hreg (h ▸ rfl)
    have hval : ¬ f.reg.val = g.reg.val := fun h => hreg (Fin.ext h)
    simp [hne, hval]

/-! ### IRQ# (R172, R174) -/

/-- The positions of EVT_PEND and EVT_EN that the mask keeps are those of flags. -/
theorem evtMask_getLsbD (r : Fin 2) (b : Nat) (hb : b < 16) : (evtMask r).getLsbD b = decide (b < flagCount r) := by
  revert r b
  decide

theorem getLsbD_of_masked {x m : Word} (h : x &&& ~~~m = 0) {b : Nat} (hb : b < 16) (hx : x.getLsbD b = true) :
    m.getLsbD b = true := by
  have hbit : (x &&& ~~~m).getLsbD b = false := by
    rw [h]
    exact BitVec.getLsbD_zero
  simpa [hx, hb] using hbit

/-- A register pair has a bit in common exactly where a flag of that register is both pending and enabled. -/
theorem pend_and_enable_iff {s : State} (h : EventsOk s) (r : Fin 2) :
    (s.pend[r] &&& s.enable[r]) ≠ 0 ↔ ∃ f : Flag, f.reg = r ∧ s.flag f = true ∧ s.flagEnabled f = true := by
  constructor
  · intro hne
    obtain ⟨b, hb, hbit⟩ : ∃ b, b < 16 ∧ (s.pend[r] &&& s.enable[r]).getLsbD b = true := by
      by_contra hnone
      refine hne (BitVec.eq_of_getLsbD_eq fun b hb => ?_)
      exact (Bool.eq_false_iff.mpr fun hbit => hnone ⟨b, hb, hbit⟩).trans BitVec.getLsbD_zero.symm
    rw [BitVec.getLsbD_and, Bool.and_eq_true] at hbit
    have hmask := getLsbD_of_masked (h r).1 hb hbit.1
    rw [evtMask_getLsbD r b hb, decide_eq_true_eq] at hmask
    obtain ⟨hreg, hpos⟩ := flagAt_place r b hmask
    exact ⟨flagAt r b, hreg, by simpa only [State.flag, hreg, hpos] using hbit.1,
      by simpa only [State.flagEnabled, hreg, hpos] using hbit.2⟩
  · rintro ⟨f, rfl, hpend, hen⟩ hzero
    have hbit : (s.pend[f.reg] &&& s.enable[f.reg]).getLsbD f.bit = true := by
      rw [BitVec.getLsbD_and, Bool.and_eq_true]
      exact ⟨hpend, hen⟩
    rw [hzero] at hbit
    exact Bool.false_ne_true (BitVec.getLsbD_zero.symm.trans hbit)

/-- Settles O50: the 21 places are different, and IRQ# asks for a bit in common in one of the two pairs. -/
theorem flagsAreSeparateAndDriveIrq : Obligations.FlagsAreSeparateAndDriveIrq := by
  refine ⟨setFlag_flag, fun f => (flag_place f).2.2, fun s h => ?_⟩
  have hirq : s.irqLow = true ↔ s.inReset = false ∧ ((s.pend[(0 : Fin 2)] &&& s.enable[(0 : Fin 2)]) ≠ 0
      ∨ (s.pend[(1 : Fin 2)] &&& s.enable[(1 : Fin 2)]) ≠ 0) := by
    simp only [State.irqLow, Bool.and_eq_true, Bool.or_eq_true, Bool.not_eq_true', bne_iff_ne]
  rw [hirq, pend_and_enable_iff h, pend_and_enable_iff h]
  refine and_congr_right fun _ => ⟨?_, fun ⟨f, hf⟩ => ?_⟩
  · rintro (⟨f, -, hf⟩ | ⟨f, -, hf⟩) <;> exact ⟨f, hf⟩
  · obtain hreg | hreg : f.reg = 0 ∨ f.reg = 1 := by omega
    · exact .inl ⟨f, hreg, hf⟩
    · exact .inr ⟨f, hreg, hf⟩

/-! ### EVT_PEND and EVT_EN (R169, R171) -/

/-- The mask keeps the low 13 or 8 bits of a word. -/
theorem and_evtMask (w : Word) (r : Fin 2) :
    w &&& evtMask r = BitVec.ofNat 16 (w.toNat % (if r = 0 then 2 ^ 13 else 2 ^ 8)) := by
  have hmask : (evtMask r).toNat = (if r = 0 then 2 ^ 13 else 2 ^ 8) - 1 := by
    revert r
    decide
  have hlt := w.isLt
  refine BitVec.eq_of_toNat_eq ?_
  rw [BitVec.toNat_and, hmask, BitVec.toNat_ofNat]
  split
  · rw [Nat.and_two_pow_sub_one_eq_mod]
    omega
  · rw [Nat.and_two_pow_sub_one_eq_mod]
    omega

/-- Settles O51: the two writes as bit operations, and EVT_EN's mask as a remainder. -/
theorem eventRegisterWrites : Obligations.EventRegisterWrites := by
  refine fun s r w => ⟨fun h => congrArg Host.Outcome.next (completeWord_moved h _),
    fun h => congrArg Host.Outcome.next ((completeWord_moved h _).trans ?_), rfl, rfl⟩
  simp only [writeEvtEn, and_evtMask]

/-! ### The state after a full reset -/

section
variable (s : State)

@[simp] theorem resetValues_channel (n : Fin 4) : (resetValues s).channel n = Channel.reset := by
  simp [resetValues, State.reset, State.channel]

@[simp] theorem resetValues_carrier (g : Fin 2) : (resetValues s).carrier g = Carrier.reset := by
  simp [resetValues, State.reset, State.carrier]

@[simp] theorem resetValues_pin (p : Fin 8) : (resetValues s).pin p = Pin.reset := by
  simp [resetValues, State.reset, State.pin]

@[simp] theorem resetValues_captureUnit (u : Fin 2) : (resetValues s).captureUnit u = CaptureUnit.reset := by
  simp [resetValues, State.reset, State.captureUnit]

@[simp] theorem resetValues_symbol (i : Fin 64) : (resetValues s).symbol i = Symbol.reset := by
  simp [resetValues, State.reset, State.symbol]

theorem resetValues_resetHeld : ResetHeld (resetValues s) := fun _ => rfl

theorem resetValues_channelsOk : ChannelsOk (resetValues s) := fun n => by
  simp [Channel.Ok, Channel.reset, ChannelState.context]

theorem resetValues_marksOk : MarksOk (resetValues s) := fun n => by
  simp [Channel.reset]

theorem resetValues_completionLogOk : CompletionLogOk (resetValues s) := by
  refine ⟨Nat.zero_le _, .nil, fun n => ?_, fun n r => ?_, fun h => absurd rfl h⟩
  · simp [resetValues, State.reset, State.channel, Channel.reset]
  · simp [Channel.reset]

theorem resetValues_recordsOk : RecordsOk (resetValues s) := by
  refine ⟨fun n c => ?_, fun n r => ?_, fun r hr => ?_⟩
  · simp [Channel.reset, ChannelState.context]
  · simp [Channel.reset]
  · simp [resetValues, State.reset] at hr

theorem resetValues_carriersOk : CarriersOk (resetValues s) := fun g => by
  simp [Carrier.Ok, Carrier.reset]

theorem resetValues_routesOk : RoutesOk (resetValues s) := fun p => by
  simp [Pin.reset]

theorem resetValues_timebaseOk : TimebaseOk (resetValues s) := by
  simp [TimebaseOk, resetValues, State.reset]

theorem resetValues_eventsOk : EventsOk (resetValues s) := fun r => by
  simp [resetValues, State.reset]

theorem resetValues_captureLogsOk : CaptureLogsOk (resetValues s) := fun u => by
  simp [CaptureLogOk, CaptureUnit.reset, separated]

theorem resetValues_decodersOk : DecodersOk (resetValues s) :=
  ⟨fun i => by simp [Symbol.reset], fun u => by simp [DecoderOk, CaptureUnit.reset]⟩

theorem resetValues_unitsOk : UnitsOk (resetValues s) := fun u => by
  simp [CaptureUnit.Ok, CaptureConfig.Ok, CaptureState.Ok, CaptureUnit.reset]

theorem resetValues_portOk : PortOk (resetValues s) := ⟨fun h => absurd rfl h, rfl⟩

end

/-- Settles O52: State.reset is what a full reset leaves of it. -/
theorem resetStateMeetsEveryPromise : Obligations.ResetStateMeetsEveryPromise := by
  obtain ⟨hplay, hcontexts⟩ := (framesOk_iff True _).mp (resetValues_framesOk True State.reset)
  exact ⟨hplay, resetValues_channelsOk State.reset, resetValues_completionLogOk State.reset, resetValues_carriersOk
    State.reset, resetValues_routesOk State.reset, resetValues_timebaseOk State.reset, resetValues_eventsOk
    State.reset, resetValues_captureLogsOk State.reset, resetValues_decodersOk State.reset, resetValues_portOk
    State.reset, resetValues_resetHeld State.reset, hcontexts trivial, resetValues_marksOk State.reset,
    resetValues_recordsOk State.reset, resetValues_unitsOk State.reset⟩

end Sys2Proof.Proofs
end

section
/-! SUPPORT. Flags set under conditions, and the statements about frame ends, FLUSH and the wait list: O21, O26, O32 and
O33. -/

namespace Sys2Proof.Proofs

open Sys2Proof Sys2Proof.Machine Sys2Proof.Machine.Laws Sys2Proof.Stated

/-! ### Flags set one after another, and under conditions -/

theorem setFlag_pend (f : Flag) (s : State) (r : Fin 2) :
    (s.setFlag f).pend[r] = if f.reg = r then s.pend[r] ||| BitVec.twoPow 16 f.bit else s.pend[r] := by
  simp only [State.setFlag, Fin.getElem_fin, Vector.getElem_set, Fin.val_inj]
  split
  · next h => simp only [h]
  · rfl

/-- The order in which two flags are set does not matter. -/
theorem setFlag_comm (f g : Flag) (s : State) : (s.setFlag f).setFlag g = (s.setFlag g).setFlag f := by
  have hword : ∀ r : Fin 2, ((s.setFlag f).setFlag g).pend[r] = ((s.setFlag g).setFlag f).pend[r] := fun r => by
    simp only [setFlag_pend]
    split <;> split
    · rw [BitVec.or_assoc, BitVec.or_assoc, BitVec.or_comm (BitVec.twoPow 16 f.bit)]
    all_goals rfl
  have hpend : ((s.setFlag f).setFlag g).pend = ((s.setFlag g).setFlag f).pend :=
    Vector.ext fun i hi => hword ⟨i, hi⟩
  exact congrArg (fun v => { s with pend := v }) hpend

section
variable (p q : Prop) [Decidable p] [Decidable q] (f g : Flag) (s : State)

theorem setWhen_setFlag : setWhen p f (s.setFlag g) = (setWhen p f s).setFlag g := by
  unfold setWhen
  split
  · exact setFlag_comm g f s
  · rfl

theorem setWhen_comm : setWhen p f (setWhen q g s) = setWhen q g (setWhen p f s) := by
  unfold setWhen
  split <;> split
  · exact setFlag_comm g f s
  all_goals rfl

theorem setWhen_setChannel (n : Fin 4) (ch : Channel) :
    (setWhen p f s).setChannel n ch = setWhen p f (s.setChannel n ch) := by
  unfold setWhen
  split <;> rfl

@[simp] theorem setWhen_channel (n : Fin 4) : (setWhen p f s).channel n = s.channel n := by
  unfold setWhen
  split <;> rfl

@[simp] theorem setWhen_channels : (setWhen p f s).channels = s.channels := by
  unfold setWhen
  split <;> rfl

@[simp] theorem setWhen_waitList : (setWhen p f s).waitList = s.waitList := by
  unfold setWhen
  split <;> rfl

@[simp] theorem setWhen_log : (setWhen p f s).log = s.log := by
  unfold setWhen
  split <;> rfl

end

theorem setWhen_congr {p q : Prop} [Decidable p] [Decidable q] (h : p ↔ q) (f : Flag) (s : State) :
    setWhen p f s = setWhen q f s := if_congr h rfl rfl

/-! ### What follows a record's entry (R67, R80, R88, R89) -/

theorem examineFull_eq (before : Nat) (s : State) :
    examineFull before s = setWhen (before < 16 ∧ s.log.length = 16) .clFull s := rfl

/-- The watermark that is examined is one of the two, by the free value. -/
theorem examineLow_eq (n : Fin 4) (before after wOld wNew : Nat) (s : State) :
    let w := if Config.clearingSeesNewWatermark then wNew else wOld
    examineLow n before after wOld wNew s = setWhen (w < before ∧ after ≤ w) (.txLow n) s := by
  refine if_congr ?_ rfl rfl
  have hcross : ∀ w, crosses before after w = true ↔ w < before ∧ after ≤ w := fun w => by
    simp [crosses]
  have heither : crossesEither before after wOld wNew
      = crosses before after (if Config.clearingSeesNewWatermark then wNew else wOld) := by
    unfold crossesEither
    cases Config.clearingSeesNewWatermark
    · split
      · next h => exact h.symm
      · rfl
    · exact ite_self _
  rw [heither, hcross]

/-- A channel once its record is in the log: HELD without a frame with a hold pending, and otherwise IDLE, with a beat
event that it had still to take only if it can start at it (R67). -/
def postedChannel (ch : Channel) : Channel := { ch with
  state := if ch.holdPending then .held none else .idle
  holdPending := false, beatDue := !ch.holdPending && (ch.beatDue && ch.canStart) }

theorem afterPosted_eq (n : Fin 4) (s : State) : afterPosted n s =
    setWhen ((s.channel n).holdPending = true) (.txHeld n) (s.setChannel n (postedChannel (s.channel n))) := by
  rcases afterPosted_cases n s with ⟨h, e⟩ | ⟨h, e⟩
  · simp [e, h, setWhen, postedChannel]
  · simp [e, h, setWhen, postedChannel]

/-- A frame-end record enters a log that has room, and the flags that follow. -/
theorem handRecord_of_room {s : State} (h : s.log.length < 16) (n : Fin 4) (r : Completion) : handRecord n r s =
    setWhen (s.log.length = 15) .clFull (setWhen ((s.channel n).holdPending = true) (.txHeld n)
      (State.setFlag (.txDone r.channel) { s with
        log := s.log ++ [r], channels := s.channels.set n (postedChannel (s.channel n)) })) := by
  have hfull : (s.log.length < 16 ∧ (postRecord r s).log.length = 16) ↔ s.log.length = 15 := by
    simp only [postRecord_eq, setFlag_log, List.length_append, List.length_singleton]
    omega
  have hhand : handRecord n r s = afterPosted n (examineFull s.log.length (postRecord r s)) := if_pos h
  rw [hhand, examineFull_eq, setWhen_congr hfull, afterPosted_eq, setWhen_setChannel, setWhen_comm, setWhen_channel]
  rfl

/-- A frame-end record waits with its channel where the log has no room. -/
theorem handRecord_of_full {s : State} (h : ¬ s.log.length < 16) (n : Fin 4) (r : Completion) :
    handRecord n r s = { s with
      channels := s.channels.set n { s.channel n with state := .logwait r, beatDue := false }
      waitList := s.waitList ++ [n] } := if_neg h

/-- The watermark's flag and a record's departure from the queue do not touch one another. -/
theorem setWhen_setTx (p : Prop) [Decidable p] (f : Flag) (s : State) (v : Vector Channel 4) (l : List Completion)
    (w : List (Fin 4)) :
    { setWhen p f s with channels := v, log := l, waitList := w }
      = setWhen p f { s with channels := v, log := l, waitList := w } := by
  unfold setWhen
  split <;> rfl

/-- Settles O26: the record enters or waits by the log's room; the head's departure and its watermark come before. -/
theorem frameEndHandsOverOneRecord : Obligations.FrameEndHandsOverOneRecord := by
  intro s n o c wOld d rest ch hq r w left
  rw [frameEnd_cons hq, examineLow_eq]
  generalize hgone : (s.setSlot d.slot { s.slot d.slot with frames := (s.slot d.slot).frames - 1 }).setChannel n
    { s.channel n with queue := rest, abortPending := false, resumePending := false } = t
  have hlog : t.log = s.log := by rw [← hgone]; rfl
  have hchannel : t.channel n = { ch with queue := rest, abortPending := false, resumePending := false } := by
    simp [← hgone, ch]
  have hhold : (t.channel n).holdPending = ch.holdPending := by rw [hchannel]
  have hleft : ∀ x hold due entered waits, left x hold due entered waits
      = { setWhen (w < rest.length + 1 ∧ rest.length ≤ w) (.txLow n) t with
        channels := t.channels.set n { t.channel n with state := x, holdPending := hold, beatDue := due }
        log := t.log ++ entered, waitList := t.waitList ++ waits } := by
    intro x hold due entered waits
    rw [setWhen_setTx, hchannel, ← hgone]
    simp [left, State.setChannel, State.setSlot]
  change handRecord n r (setWhen (w < rest.length + 1 ∧ rest.length ≤ w) (.txLow n) t) = _
  by_cases hroom : s.log.length < 16
  · rw [handRecord_of_room (by rw [setWhen_log, hlog]; exact hroom), if_pos hroom, setWhen_log, setWhen_channel, setWhen_channels, hlog]
    have hstart : (!rest.isEmpty) = decide (rest ≠ []) := by cases rest <;> rfl
    have hposted : (if ch.holdPending then left (.held none) false false [r] []
        else left .idle false (ch.beatDue && ch.enabled && decide (rest ≠ [])) [r] [])
        = { setWhen (w < rest.length + 1 ∧ rest.length ≤ w) (.txLow n) t with
          log := s.log ++ [r], channels := t.channels.set n (postedChannel (t.channel n)) } := by
      simp only [hleft, List.append_nil, hlog, hchannel, postedChannel, Channel.canStart, hstart, setWhen_setTx,
        setWhen_waitList, Bool.and_assoc]
      cases ch.holdPending <;> rfl
    rw [hposted, hhold]
  · rw [handRecord_of_full (by rw [setWhen_log, hlog]; exact hroom), if_neg hroom, hleft, setWhen_channel, setWhen_channels,
      setWhen_waitList, ← hhold, List.append_nil, setWhen_setTx, setWhen_setTx, setWhen_log]

/-! ### FLUSH (R41 to R43) -/

/-- How many descriptors FLUSH leaves: the head of a frame in progress (R41). -/
def keptCount (ch : Channel) : Nat := if ch.state.context.isSome then 1 else 0

theorem flushSelected_eq (ch : Channel) : ch.flushSelected = ch.queue.drop (keptCount ch) := by
  unfold Channel.flushSelected keptCount
  split <;> rfl

theorem flushKept_eq (ch : Channel) : ch.flushKept = ch.queue.take (keptCount ch) := by
  unfold Channel.flushKept keptCount
  split <;> rfl

/-- The flags that a flush may set, after its departures and its records. -/
theorem flushChannel_eq {n : Fin 4} {s : State} (hout : (s.channel n).flushSelected ≠ []) :
    let ch := s.channel n
    let out := ch.queue.drop (keptCount ch)
    flushChannel n s = setWhen (s.log.length + out.length = 16) .clFull
      (setWhen (ch.watermark < ch.queue.length ∧ (ch.queue.take (keptCount ch)).length ≤ ch.watermark) (.txLow n)
      (State.setFlag (.txDone n) { s with
        channels := s.channels.set n { ch with
          queue := ch.queue.take (keptCount ch), beatDue := ch.beatDue && decide (ch.state ≠ .idle) }
        slots := Vector.ofFn (fun i =>
          { s.slot i with frames := (s.slot i).frames - out.countP (fun d => d.slot = i) })
        log := s.log ++ out.map (flushedRecord n) })) := by
  have hpos := List.length_pos_of_ne_nil hout
  have hlower := lowerFrames_eq (s.channel n).flushSelected s
  simp only [flushSelected_eq] at hpos hlower
  intro ch out
  -- The new frame counts are kept opaque, so that they are not evaluated.
  generalize (Vector.ofFn fun i =>
    { s.slot i with frames := (s.slot i).frames - out.countP (fun d => d.slot = i) } : Vector Slot 32) = slots
    at hlower ⊢
  have hfull : (s.log.length < 16 ∧ s.log.length + out.length = 16) ↔ s.log.length + out.length = 16 :=
    and_iff_right_of_imp fun h => h ▸ Nat.lt_add_of_pos_right hpos
  simp only [flushChannel, examineFull_eq, flushSelected_eq, flushKept_eq, examineLow_eq, ite_self, hlower, setWhen_log,
    setFlag_log, List.length_append, List.length_map]
  exact setWhen_congr hfull _ _

/-- Settles O21: the log's room is measured against what FLUSH selects. -/
theorem flushLogsEveryDescriptorItTakes : Obligations.FlushLogsEveryDescriptorItTakes := by
  intro s h
  refine ⟨indexBelow_of_error h fun hn => ?_, fun n hn => ?_⟩
  · simp only [Command.run, cmdFlush, hn]
  · refine (exec_rowOf_reply h .flush).trans (congrArg Host.Outcome.next ?_)
    have hkeep : (if (s.channel n).state.context.isSome then 1 else 0) = keptCount (s.channel n) := rfl
    simp only [Command.run, cmdFlush, index?_some hn, reply_ite, reply_ok, reply_error, hkeep, flushSelected_eq]
    by_cases hout : (s.channel n).queue.drop (keptCount (s.channel n)) = []
    · rw [if_pos hout, if_pos hout]
    · have hpos := List.length_pos_of_ne_nil hout
      rw [if_neg hout, if_neg hout, flushChannel_eq (by rw [flushSelected_eq]; exact hout)]
      exact if_congr (by omega) rfl rfl

/-! ### CL_POP and RECORD_ADMISSION (R84) -/

/-- The head of the wait list leaves LOGWAIT with its record in the log and no beat event left to take. -/
theorem admitWaiting_of_waiting {s : State} {n : Fin 4} {waits : List (Fin 4)} {x : Completion}
    (hw : s.waitList = n :: waits) (hst : (s.channel n).state = .logwait x) : admitWaiting s =
    let ch := s.channel n
    setWhen (ch.holdPending = true) (.txHeld n) (State.setFlag (.txDone x.channel) { s with
      log := s.log ++ [x], waitList := waits
      channels := s.channels.set n { ch with
        state := if ch.holdPending then .held none else .idle, holdPending := false, beatDue := false } }) := by
  have hadmit : admitWaiting s = afterPosted n (beatTaken n (postRecord x { s with waitList := waits })) := by
    simp only [admitWaiting, hw, hst]
  rw [hadmit, afterPosted_eq]
  simp only [beatTaken_eq, setChannel_channel, if_true, setChannel_setChannel, postedChannel, Bool.false_and,
    Bool.and_false]
  rfl

theorem admitWaiting_of_none {s : State} (h : s.waitList = []) : admitWaiting s = s := by
  simp only [admitWaiting, h]

/-- Settles O32: the freed entry goes to the channel that R81 says is in LOGWAIT with a record of its own. -/
theorem clPopAdmitsTheHeadOfTheWaitList : Obligations.ClPopAdmitsTheHeadOfTheWaitList := by
  intro s h ⟨_, _, _, hown, _⟩
  refine ⟨fun hlog => exec_rowOf_error h (c := .clPop) (by simp only [Command.run, cmdClPop, hlog]),
    fun r rest hlog => ⟨fun hw => ?_, fun n waits x hw hst => ?_⟩⟩
  · refine (exec_rowOf_reply h .clPop).trans ?_
    simp only [Command.run, cmdClPop, hlog, reply_ok]
    exact congrArg (fun t => Host.Outcome.next (answered .clPop .ok t)) (admitWaiting_of_none hw)
  · refine (exec_rowOf_reply h .clPop).trans ?_
    simp only [Command.run, cmdClPop, hlog, reply_ok]
    have hadmit := admitWaiting_of_waiting (s := { s with clOut := r.words, log := rest }) hw hst
    rw [hown n x hst] at hadmit
    exact congrArg (fun t => Host.Outcome.next (answered .clPop .ok t)) hadmit

/-- Settles O33: the row is the same admission, where there is an entry free. -/
theorem recordAdmissionFillsAFreeEntry : Obligations.RecordAdmissionFillsAFreeEntry := by
  intro s hr
  refine ⟨fun h => congrArg Host.Outcome.next (internalEvent_of_id ?_), fun n waits x hroom hw hst => ?_⟩
  · unfold recordAdmission
    split
    · next hroom => exact admitWaiting_of_none (h.resolve_left (by omega))
    · rfl
  · refine congrArg Host.Outcome.next ((internalEvent_of hr _).trans ((if_pos hroom).trans ?_))
    exact admitWaiting_of_waiting hw hst

end Sys2Proof.Proofs
end

section
/-! SUPPORT. The statements about what a channel does at a beat event: O22 to O25 and O31. -/

namespace Sys2Proof.Proofs

open Sys2Proof Sys2Proof.Machine Sys2Proof.Machine.Laws Sys2Proof.Stated

/-! ### Playing, in the statements' words (R57, R59, R63) -/

section
variable {n : Fin 4} {s : State} {d : Descriptor} {rest : List Descriptor}

theorem lengthAt_eq_getD (x : Machine.Symbol) (p : Nat) : x.lengthAt p = x.lengths.getD p 0 :=
  List.getD_eq_getElem?_getD.symm

/-- The flag of R63 set in a mark whose generator is disabled. -/
theorem markAbsent_of_play {c : Context} (hst : (s.channel n).state = .play c)
    (hq : (s.channel n).queue = d :: rest) : markAbsent n s = s.setState n (.play { c with
      carrierAbsent := c.carrierAbsent || decide (s.phaseLevel d c = .mark
        ∧ ∃ g, d.carrier = some g ∧ (s.carrier g).enabled = false) }) := by
  have hself : s.setState n (.play c) = s := by
    have : ({ s.channel n with state := .play c } : Channel) = s.channel n := by rw [← hst]
    rw [setState_eq, this, setChannel_self]
  unfold markAbsent
  simp only [hst, hq]
  cases hcarrier : d.carrier with
  | none => simpa using hself.symm
  | some g =>
    simp only [Option.some.injEq, exists_eq_left']
    split
    · next h => simp only [h, and_self, decide_true, Bool.or_true]
    · next h => simp only [h, decide_false, Bool.or_false, hself]

/-- A phase of the head begins at the context's place. -/
theorem beginPhase_eq (hq : (s.channel n).queue = d :: rest) (c : Context) : beginPhase n d c s
    = s.setChannel n { s.channel n with state := playing s d c c.position c.phase } := by
  unfold beginPhase
  simp only
  rw [markAbsent_of_play (c := { c with remaining := (s.cellSymbol d c.position).lengthAt c.phase })
    (by simp) (by simpa using hq), lengthAt_eq_getD]
  simp only [setState_eq, setChannel_channel, if_true, setChannel_setChannel]
  rfl

/-- The symbol of a cell begins at its phase 0. -/
theorem beginSymbol_eq (hq : (s.channel n).queue = d :: rest) (c : Context) : beginSymbol n d c s
    = s.setChannel n { s.channel n with state := playing s d c c.position 0 } := beginPhase_eq hq _

/-- The head starts with a fresh context. -/
theorem startFrame_eq (hq : (s.channel n).queue = d :: rest) : startFrame n s
    = s.setChannel n { s.channel n with state := playing s d fresh 0 0 } := by
  have hstart : startFrame n s = beginSymbol n d .start s := by simp only [startFrame, hq]
  exact hstart.trans (beginSymbol_eq hq .start)

end

/-! ### START_HEAD and RESUME_TAKEN -/

/-- Settles O22: the row's condition is the start's, and the start is one change of the channel. -/
theorem startHeadBeginsTheFrame : Obligations.StartHeadBeginsTheFrame := by
  intro s n hr ch hidle
  refine ⟨fun d rest hdue hen hq => ?_, fun h => congrArg Host.Outcome.next (internalEvent_of_id ?_)⟩
  · refine congrArg Host.Outcome.next ((internalEvent_of hr _).trans ?_)
    have hstart : ch.canStart = true := (canStart_iff ch).mpr ⟨hen, by simp [hq]⟩
    refine (if_pos ⟨hdue, hidle, hstart⟩).trans ?_
    rw [beatTaken_eq, startFrame_eq (by simpa using hq), setChannel_setChannel]
    simp only [setChannel_channel, if_true]
    rfl
  · refine startHead_of_not_due fun ⟨_, _, hen, hq⟩ => ?_
    rcases h with h | h
    · exact absurd (hen.symm.trans h) (by decide)
    · exact hq h

/-- Settles O25: what was held decides the step. -/
theorem resumeTakenLeavesHeld : Obligations.ResumeTakenLeavesHeld := by
  intro s n hr ch hdue hres next
  have hnext : ∀ x, next x = s.setChannel n { ch with state := x, resumePending := false, beatDue := false } :=
    fun _ => rfl
  have htaken : (beatTaken n s).modChannel n (fun ch => { ch with resumePending := false })
      = s.setChannel n { ch with resumePending := false, beatDue := false } := by
    simp [setChannel_setChannel, ch]
  have hpos : (s.channel n).beatDue = true ∧ (s.channel n).resumePending = true := ⟨hdue, hres⟩
  refine ⟨fun c d rest hst hq => ?frame, fun d rest hst hq hen => ?start, fun hst h => ?idle⟩ <;>
    refine congrArg Host.Outcome.next ((internalEvent_of hr _).trans ?_) <;>
    simp only [resumeTaken, hpos, and_self, if_true, htaken, hnext]
  case frame =>
    simp only [show (s.channel n).state = _ from hst, show (s.channel n).queue = _ from hq]
    change (if c.position = (s.slot d.slot).cells.length then _ else _) = _
    split
    · rw [beginGap_eq, setChannel_setChannel]
      simp only [setChannel_channel, if_true]
    · rw [beginSymbol_eq (by simpa using hq), setChannel_setChannel]
      simp only [setChannel_channel, if_true]
      rfl
  case start =>
    have hstart : (s.channel n).canStart = true := (canStart_iff _).mpr ⟨hen, by simp [show _ = _ from hq, ch]⟩
    simp only [show (s.channel n).state = _ from hst, hstart, if_true]
    rw [startFrame_eq (by simpa using hq), setChannel_setChannel]
    simp only [setChannel_channel, if_true]
    rfl
  case idle =>
    have hstart : (s.channel n).canStart = false := by
      refine Bool.eq_false_iff.mpr fun hs => ?_
      obtain ⟨hen, hq⟩ := (canStart_iff _).mp hs
      rcases h with h | h
      · exact hq h
      · exact absurd (hen.symm.trans h) (by decide)
    simp only [show (s.channel n).state = _ from hst, hstart, Bool.false_eq_true, if_false]
    rw [setState_eq, setChannel_setChannel]
    simp only [setChannel_channel, if_true]

/-! ### PHASE_END and GAP_END -/

/-- Settles O23: the next phase of the same symbol. -/
theorem phaseEndBeginsTheNextPhase : Obligations.PhaseEndBeginsTheNextPhase := by
  intro s n c d rest hr ch hst hq h0 hphase
  refine congrArg Host.Outcome.next ((internalEvent_of hr _).trans ?_)
  simp only [phaseEnd, show (s.channel n).state = _ from hst, show (s.channel n).queue = _ from hq, h0, hphase, if_true]
  rw [beatTaken_eq, beginPhase_eq (by simpa using hq), setChannel_setChannel]
  simp only [setChannel_channel, if_true]
  rfl

/-- Of its context, a frame end reads the completed count and the carrier-absent flag. -/
theorem frameEnd_congr {c c' : Context} (hcount : c.completed = c'.completed)
    (habsent : c.carrierAbsent = c'.carrierAbsent) (n : Fin 4) (o : FrameOutcome) (w : Nat) (s : State) :
    frameEnd n o c w s = frameEnd n o c' w s := by
  simp only [frameEnd, frameRecord, hcount, habsent]

theorem isLast_iff (d : Descriptor) (c : Context) : isLast d c = true ↔ LastRepetition d c := by
  simp [isLast, LastRepetition, Nat.pos_iff_ne_zero]

section
variable {n : Fin 4} {s : State} {d : Descriptor} {rest : List Descriptor}

/-- A boundary whose next step is to end the frame. -/
theorem boundary_finish (c : Context) : boundary n d (.finish, c) s = endFrameNow n c s := by
  simp only [boundary, endFrameNow]
  split <;> rfl

variable (hq : (s.channel n).queue = d :: rest) (hdue : (s.channel n).beatDue = false)
include hdue

/-- A boundary that holds the frame leaves no beat event to take, as there was none. -/
theorem enterHeld_of_taken (x : Option Context) : enterHeld n x s
    = (s.setChannel n { s.channel n with state := .held x, holdPending := false }).setFlag (.txHeld n) := by
  rw [enterHeld_eq, ← hdue]

include hq

/-- A boundary whose next step is a symbol. -/
theorem boundary_symbol (c : Context) (pos : Nat) : boundary n d (.symbol, { c with position := pos }) s
    = goOn n c pos (playing s d c pos 0) s := by
  simp only [boundary, goOn, enterHeld_of_taken hdue, beginSymbol_eq hq]
  rw [frameEnd_congr (c := { c with position := pos }) (c' := c) rfl rfl]
  rfl

omit hq in
/-- A boundary whose next step is the gap. -/
theorem boundary_gap (c : Context) (pos : Nat) : boundary n d (.gap, { c with position := pos }) s
    = goOn n c pos (.gap { c with position := pos, phase := 0, remaining := d.gap }) s := by
  simp only [boundary, goOn, enterHeld_of_taken hdue, beginGap_eq]
  rw [frameEnd_congr (c := { c with position := pos }) (c' := c) rfl rfl]

/-- A boundary at the end of a repetition. -/
theorem boundary_endRepetition (c : Context) : boundary n d (endRepetition d c) s = afterRepetition n d c s := by
  unfold endRepetition afterRepetition
  by_cases hlast : LastRepetition d c
  · rw [if_pos ((isLast_iff d c).mpr hlast), if_pos hlast, boundary_finish]
  · rw [if_neg (fun h => hlast ((isLast_iff d c).mp h)), if_neg hlast]
    exact boundary_symbol hq hdue { c with repetition := min 255 (c.repetition + 1) } (d.repeatFrom.getD 0)

end

/-- The end of a repetition reads of its context everything but the position. -/
theorem afterRepetition_position (n : Fin 4) (d : Descriptor) (c : Context) (pos : Nat) (s : State) :
    afterRepetition n d { c with position := pos } s = afterRepetition n d c s := by
  simp only [afterRepetition, endFrameNow, goOn, LastRepetition, playing]
  rw [frameEnd_congr (c := { c with position := pos }) (c' := c) rfl rfl, frameEnd_congr (c := { c with
    repetition := min 255 (c.repetition + 1), position := pos }) (c' := { c with
    repetition := min 255 (c.repetition + 1) }) rfl rfl]

/-- Settles O24: the next step by the place in the sequence, and the decision by the channel's flags. -/
theorem boundaryDecidesTheNextStep : Obligations.BoundaryDecidesTheNextStep := by
  intro s n c d rest hr ch len hq h0 t c'
  have ht : beatTaken n s = t := rfl
  have htq : (t.channel n).queue = d :: rest := by simpa [t] using hq
  have htdue : (t.channel n).beatDue = false := by simp [t]
  refine ⟨fun hst hlast => ?phase, fun hst => ?gap⟩ <;>
    refine congrArg Host.Outcome.next ((internalEvent_of hr _).trans ?_)
  case phase =>
    have hend : ¬ c.phase + 1 < (s.cellSymbol d c.position).lengths.length := Nat.not_lt.mpr hlast
    simp only [phaseEnd, show (s.channel n).state = _ from hst, show (s.channel n).queue = _ from hq, if_pos h0,
      if_neg hend, afterSymbol, ht]
    change boundary n d (if c.position + 1 < len then _ else if 0 < d.gap then _ else _) t = _
    by_cases hcell : c.position + 1 < len
    · rw [if_pos hcell, if_pos hcell, boundary_symbol htq htdue]
      rfl
    · rw [if_neg hcell, if_neg hcell]
      by_cases hgap : 0 < d.gap
      · rw [if_pos hgap, if_pos hgap]
        exact boundary_gap htdue c' len
      · rw [if_neg hgap, if_neg hgap]
        exact (boundary_endRepetition htq htdue { c' with position := len }).trans
          (afterRepetition_position n d c' len t)
  case gap =>
    simp only [gapEnd, show (s.channel n).state = _ from hst, show (s.channel n).queue = _ from hq, if_pos h0, ht]
    exact boundary_endRepetition htq htdue c

/-! ### The level a channel puts out (R62, R63) -/

theorem gateMark_eq_mark_iff (s : State) (carrier : Option (Fin 2)) : s.gateMark carrier = .mark ↔
    ∀ g, carrier = some g → (s.carrier g).enabled = true → (s.carrier g).outputHigh = true := by
  cases carrier with
  | none => simp [State.gateMark]
  | some g =>
    simp only [State.gateMark, Option.some.injEq, forall_eq']
    cases (s.carrier g).enabled <;> cases (s.carrier g).outputHigh <;> simp

/-- Settles O31: MARK comes from a mark phase of the head through its carrier alone. -/
theorem channelMarksOnlyInAMarkPhase : Obligations.ChannelMarksOnlyInAMarkPhase := by
  intro s n
  unfold State.channelLevel
  split
  · next c d rest hst hq =>
    have hplay : (∃ c' d' rest', (s.channel n).state = .play c' ∧ (s.channel n).queue = d' :: rest'
        ∧ (s.cellSymbol d' c'.position).levelAt c'.phase = .mark
        ∧ ∀ g, d'.carrier = some g → (s.carrier g).enabled = true → (s.carrier g).outputHigh = true)
        ↔ s.phaseLevel d c = .mark ∧ s.gateMark d.carrier = .mark := by
      rw [gateMark_eq_mark_iff]
      constructor
      · rintro ⟨c', d', rest', hst', hq', h⟩
        cases hst.symm.trans hst'
        cases hq.symm.trans hq'
        exact h
      · exact fun h => ⟨c, d, rest, hst, hq, h⟩
    rw [hplay]
    cases s.phaseLevel d c <;> simp
  · next hnone =>
    simp only [reduceCtorEq, false_iff]
    rintro ⟨c, d, rest, hst, hq, -⟩
    exact hnone c d rest hst hq

end Sys2Proof.Proofs
end

section
/-! SUPPORT. The statements about host requests and TXn_CTRL: O27, O29 and O30. -/

namespace Sys2Proof.Proofs

open Sys2Proof Sys2Proof.Machine Sys2Proof.Machine.Laws Sys2Proof.Stated

/-! ### HOLD, RESUME and RELEASE -/

section
variable {s : State} {n : Fin 4} (hn : (s.arg 0).toNat = n)
include hn

/-- HOLD acts at once in IDLE, is refused in HELD, and waits for a boundary elsewhere (R68). -/
theorem cmdHold_of_index : cmdHold s =
    if (s.channel n).holdPending ∨ isHeld (s.channel n).state then .error .already
    else if (s.channel n).state = .idle then .ok (State.setFlag (.txHeld n)
      (s.setChannel n { s.channel n with state := .held none, beatDue := false }))
    else .ok (s.setChannel n { s.channel n with holdPending := true }) := by
  simp only [cmdHold, index?_some hn, enterHeld_eq, modChannel_eq]
  cases hst : (s.channel n).state with
  | held c => simp [isHeld]
  | idle =>
    cases hhold : (s.channel n).holdPending with
    | false => simp [isHeld, ← hhold]
    | true => simp [isHeld]
  | play c | gap c | logwait r => cases (s.channel n).holdPending <;> simp [isHeld]

/-- RESUME waits for a beat event in HELD, and elsewhere takes back a pending hold (R69). -/
theorem cmdResume_of_index : cmdResume s =
    if isHeld (s.channel n).state then .ok (s.setChannel n { s.channel n with resumePending := true })
    else if (s.channel n).holdPending = true then
      .ok (s.setChannel n { s.channel n with holdPending := false })
    else .error .notHeld := by
  simp only [cmdResume, index?_some hn, modChannel_eq]
  cases (s.channel n).state <;> simp [isHeld]

theorem cmdRelease_of_noFrame (hctx : (s.channel n).state.context = none) : cmdRelease s = .error .noFrame := by
  simp only [cmdRelease, index?_some hn, hctx]

/-- RELEASE in a frame (R73). -/
theorem cmdRelease_of_frame {c : Context} {d : Descriptor} {rest : List Descriptor}
    (hctx : (s.channel n).state.context = some c) (hq : (s.channel n).queue = d :: rest) : cmdRelease s =
    if LastRepetition d c then .error .already
    else .ok (s.setChannel n { s.channel n with state := (s.channel n).state.released }) := by
  simp only [cmdRelease, index?_some hn, hctx, hq, isLast_iff, setState_eq]

end

/-- A state with a frame in progress, its last-repetition flag set. -/
theorem released_of_context {x : ChannelState} {c : Context} (h : x.context = some c) : x.released =
    if x = .play c then .play { c with last := true }
    else if x = .gap c then .gap { c with last := true }
    else .held (some { c with last := true }) := by
  rcases (context_eq_some_iff x c).mp h with rfl | rfl | rfl <;> simp [ChannelState.released, Context.released]

/-- Settles O27: the two requests by the channel's state. -/
theorem holdAndResumeActByState : Obligations.HoldAndResumeActByState := by
  intro s h
  refine ⟨indexBelow_of_error h fun hn => ?_, indexBelow_of_error h fun hn => ?_, fun n hn => ⟨?_, ?_⟩⟩
  · simp only [Command.run, cmdHold, hn]
  · simp only [Command.run, cmdResume, hn]
  · refine (exec_rowOf_reply h .hold).trans ?_
    simp only [Command.run, cmdHold_of_index hn, reply_ite, reply_ok, reply_error, State.setChannel]
  · refine (exec_rowOf_reply h .resume).trans ?_
    simp only [Command.run, cmdResume_of_index hn, reply_ite, reply_ok, reply_error, State.setChannel]

/-- Settles O29: with no frame in progress there is nothing to release, and otherwise the flag of its context is set. -/
theorem releaseMakesTheRepetitionLast : Obligations.ReleaseMakesTheRepetitionLast := by
  intro s h
  refine ⟨indexBelow_of_error h fun hn => ?_, fun n hn => ⟨fun hctx => ?_, fun c d rest hctx hq => ?_⟩⟩
  · simp only [Command.run, cmdRelease, hn]
  · exact exec_rowOf_error h (c := .release) (cmdRelease_of_noFrame hn hctx)
  · refine (exec_rowOf_reply h .release).trans ?_
    simp only [Command.run, cmdRelease_of_frame hn hctx hq, reply_ite, reply_ok, reply_error, State.setChannel,
      released_of_context hctx]

/-! ### TXn_CTRL (R45, R74) -/

/-- Clearing a set enable, after the write has stored it: the pending flags go, and then the frame or the HELD state. -/
theorem clearEnable_eq (n : Fin 4) (w : Nat) (s : State) :
    let stopped (x : ChannelState) : State := s.setChannel n { s.channel n with
      state := x, holdPending := false, abortPending := false, resumePending := false, beatDue := false }
    clearEnable n w s = match (s.channel n).state.context with
      | some c => frameEnd n .aborted c w (stopped (s.channel n).state)
      | none => if (s.channel n).state = .held none then stopped .idle else stopped (s.channel n).state := by
  intro stopped
  have hidle : ∀ x, (stopped x).setState n .idle = stopped .idle := fun x => by
    simp only [stopped, setState_eq, setChannel_setChannel, setChannel_channel, if_true]
  have hflags : s.modChannel n (fun ch => { ch with
      holdPending := false, abortPending := false, resumePending := false, beatDue := false })
      = stopped (s.channel n).state := rfl
  unfold clearEnable
  simp only [hflags, hidle]
  cases (s.channel n).state with
  | held c => cases c <;> simp [ChannelState.context]
  | _ => simp [ChannelState.context]

/-- Settles O30: the word stores enable and watermark first, and a cleared enable then acts by the channel's state. -/
theorem txCtrlWriteStoresAndStops : Obligations.TxCtrlWriteStoresAndStops := by
  intro s n f h ch on stopped off
  have hon : writeTxCtrl n true f s = on := by
    simp only [writeTxCtrl, Bool.not_true, Bool.and_false, Bool.false_eq_true, if_false]
    rfl
  have hoff : writeTxCtrl n false f s = off := by
    have hstopped : ∀ x, stopped x = (s.setChannel n { ch with
        enabled := false, watermark := storedWatermark f }).setChannel n { ch with
          enabled := false, watermark := storedWatermark f, state := x, holdPending := false, abortPending := false
          resumePending := false, beatDue := false } := fun x => (setChannel_setChannel _ _ _ _).symm
    cases hen : ch.enabled with
    | false =>
      simp only [writeTxCtrl, show (s.channel n).enabled = _ from hen, Bool.false_and, Bool.false_eq_true, if_false,
        off, hen, if_true, modChannel_eq]
      rfl
    | true =>
      simp only [writeTxCtrl, show (s.channel n).enabled = _ from hen, Bool.not_false, Bool.and_true, if_true,
        off, hen, Bool.true_eq_false, if_false, clearEnable_eq, hstopped, modChannel_eq, setChannel_channel]
      rfl
  refine ⟨congrArg Host.Outcome.next ((completeWord_moved h _).trans (congrArg moved hon)),
    congrArg Host.Outcome.next ((completeWord_moved h _).trans (congrArg moved hoff)), fun w hw => ?_⟩
  have hbit : ctrlEnable w = decide (w.toNat % 2 = 1) := by
    simpa [ctrlEnable] using getLsbD_eq_decide w 0
  have hfield : ctrlWatermark w = f := by
    rw [hw]
    refine BitVec.eq_of_toNat_eq ?_
    simp [ctrlWatermark, Nat.shiftRight_eq_div_pow]
  refine congrArg Host.Outcome.next ((completeWord_moved h _).trans (congrArg moved ?_))
  rw [hfield, hbit, ← hon, ← hoff]
  split
  · next h1 => simp only [h1, decide_true]
  · next h1 => simp only [h1, decide_false]

end Sys2Proof.Proofs
end

section
/-! SUPPORT. The statements about the timebase, the carriers and the pins: O34 to O38 and O40. -/

namespace Sys2Proof.Proofs

open Sys2Proof Sys2Proof.Machine Sys2Proof.Machine.Laws Sys2Proof.Stated

/-! ### SET_TIMEBASE (R94, R95) -/

theorem mapTable_eq_ofFn {α β : Type} {n : Nat} (f : α → β) (v : Vector α n) :
    mapTable f v = Vector.ofFn (fun i => f v[i]) := eq_ofFn fun i => by simp

/-- The channels once no beat event is left to take. -/
theorem dropBeat_eq (s : State) : dropBeat s = { s with
    channels := Vector.ofFn (fun n => { s.channel n with beatDue := false }) } :=
  congrArg (fun v => { s with channels := v }) (mapTable_eq_ofFn _ _)

theorem any_toList_iff {α : Type} {n : Nat} (p : α → Bool) (v : Vector α n) :
    v.toList.any p = true ↔ ∃ i : Fin n, p v[i] = true := by
  simp only [List.any_eq_true, Vector.mem_toList_iff, Vector.mem_iff_getElem, Fin.exists_iff, Fin.getElem_fin]
  constructor
  · rintro ⟨x, ⟨i, hi, rfl⟩, hp⟩
    exact ⟨i, hi, hp⟩
  · rintro ⟨i, hi, hp⟩
    exact ⟨v[i], ⟨i, hi, rfl⟩, hp⟩

theorem atWork_iff (s : State) : s.atWork = true ↔
    (∃ n, (s.channel n).state ≠ .idle) ∨ ∃ u, (s.captureUnit u).state ≠ .off := by
  rw [State.atWork, Bool.or_eq_true, any_toList_iff, any_toList_iff]
  simp only [decide_eq_true_eq]
  exact Iff.rfl

/-- Settles O34: the two checks, and the three items that change. -/
theorem setTimebaseNeedsAnIdleDevice : Obligations.SetTimebaseNeedsAnIdleDevice := by
  intro s h
  refine (exec_rowOf_reply h .setTimebase).trans ?_
  simp only [Command.run, cmdSetTimebase, reply_ite, reply_ok, reply_error, atWork_iff, dropBeat_eq]

/-! ### BEAT_EVENT (R58, R92, R119, R130, R131) -/

theorem settleUpTo_of_no_work {s : State} (h : workLeft s = false) (k : Nat) : settleUpTo k s = s := by
  cases k with
  | zero => rfl
  | succ k => simp [settleUpTo, h]

/-- The sensed level of a pin, read back from the byte of all eight. -/
theorem sensedByte_getLsbD (s : State) (o : Outside) (p : Fin 8) :
    (s.sensedByte o).getLsbD p = (s.sensed o p).bit := by
  simp only [State.sensedByte, BitVec.getLsbD_append]
  fin_cases p <;> simp

theorem lineOfBit_bit (l : Line) : lineOfBit l.bit = l := by
  cases l <;> rfl

/-- R131's run, in the statement's words. -/
theorem filter_take_eq (l : Level) (f : Filter) :
    f.take l = { f with run := if l = f.accepted then 0 else f.run + 1 } := by
  unfold Filter.take
  split <;> rfl

/-- Settles O35: nothing is settled first, and each channel and each unit meets the beat event by its state. -/
theorem beatEventCountsDownAndSamples : Obligations.BeatEventCountsDownAndSamples := by
  intro s o hr hw due sample run
  refine congrArg Host.Outcome.next ((internalEvent_of hr _).trans ?_)
  have hsettle : settle s = s := settleUpTo_of_no_work hw 8
  have htables : ∀ {v v' : Vector Channel 4} {w w' : Vector CaptureUnit 2}, v = v' → w = w' →
      ({ s with count := 0, channels := v, units := w } : State) = { s with count := 0, channels := v', units := w' } := by
    rintro _ _ _ _ rfl rfl
    rfl
  simp only [beatEvent, hsettle]
  refine htables ((mapTable_eq_ofFn _ _).trans (congrArg Vector.ofFn (funext fun n => ?channel)))
    ((mapTable_eq_ofFn _ _).trans (congrArg Vector.ofFn (funext fun u => ?unit)))
  case channel =>
    change (s.channel n).beat = _
    unfold Channel.beat
    cases hst : (s.channel n).state with
    | idle =>
      have hq : (!(s.channel n).queue.isEmpty) = decide ((s.channel n).queue ≠ []) := by
        cases (s.channel n).queue <;> rfl
      simp only [due, hst, Channel.canStart, hq]
    | _ => simp only [due, hst]
  case unit =>
    have hlevel : sampleLevel (s.captureUnit u).config.rest
        (lineOfBit ((s.sensedByte o).getLsbD (s.captureUnit u).config.pin)) = sample (s.captureUnit u) := by
      rw [sensedByte_getLsbD, lineOfBit_bit]
      rfl
    change (s.captureUnit u).sample (s.sensedByte o) = _
    simp only [CaptureUnit.sample, hlevel]
    cases hst : (s.captureUnit u).state with
    | armed f => cases f <;> simp only [CaptureState.take, filter_take_eq, run]
    | _ => simp only [CaptureState.take, filter_take_eq, run]

/-! ### Carriers (R98 to R103) -/

theorem applyPair_eq (c : Carrier) : c.applyPair = pairOf c := by
  have hperiod : appliedPeriod c.periodReg = min 4095 (max 2 c.periodReg.toNat) := by
    unfold appliedPeriod
    split
    · omega
    · split <;> omega
  have hhigh : ∀ p, 2 ≤ p → appliedHigh c.highReg p = min (p - 1) (max 1 c.highReg.toNat) := fun p hp => by
    unfold appliedHigh
    split
    · omega
    · split <;> omega
  simp only [Carrier.applyPair, pairOf, hperiod]
  rw [hhigh _ (by omega)]

theorem applyReady_eq (c : Carrier) : c.applyReady = if c.ready then pairOf c else c := by
  rw [Carrier.applyReady, applyPair_eq]

theorem endPeriod_eq (c : Carrier) :
    c.endPeriod = { (if c.ready then pairOf c else c) with position := 0, outputHigh := true } := by
  rw [Carrier.endPeriod, applyReady_eq, Carrier.beginPeriod]

/-- Settles O37: each row on its own part of the period. -/
theorem carrierPartsEnd : Obligations.CarrierPartsEnd := by
  intro s g hr c hen
  refine ⟨fun hout => ?_, fun hout => ?_⟩ <;> refine congrArg Host.Outcome.next ((internalEvent_of hr _).trans ?_)
  · exact if_pos ⟨hen, hout⟩
  · refine (if_pos ⟨hen, hout⟩).trans ?_
    rw [modCarrier_eq, endPeriod_eq]
    rfl

/-- The carrier-absent flag set on one channel. -/
theorem markAbsent_eq (n : Fin 4) (s : State) : markAbsent n s = s.setChannel n (absentMarked s (s.channel n)) := by
  cases hst : (s.channel n).state with
  | play c =>
    cases hq : (s.channel n).queue with
    | nil => simp only [markAbsent, absentMarked, hst, hq, setChannel_self]
    | cons d rest =>
      simp only [markAbsent, absentMarked, hst, hq]
      cases hcarrier : d.carrier with
      | none => simp only [reduceCtorEq, false_and, exists_false, and_false, if_false, setChannel_self]
      | some g =>
        simp only [Option.some.injEq, exists_eq_left']
        split
        · rw [setState_eq, ← hq]
        · rw [setChannel_self]
  | _ => simp only [markAbsent, absentMarked, hst, setChannel_self]

@[simp] theorem absentMarked_setChannel (n : Fin 4) (x ch : Channel) (s : State) :
    absentMarked (s.setChannel n x) ch = absentMarked s ch := rfl

/-- The carrier-absent flag set on every channel that R63 gives it to. -/
theorem markAllAbsent_eq (s : State) :
    markAllAbsent s = { s with channels := Vector.ofFn (fun n => absentMarked s (s.channel n)) } := by
  have hchannel : ∀ n, (markAllAbsent s).channel n = absentMarked s (s.channel n) := fun n => by
    fin_cases n <;> simp [markAllAbsent, markAbsent_eq]
  have hframe : markAllAbsent s = { s with channels := (markAllAbsent s).channels } := by
    simp only [markAllAbsent, markAbsent_eq]
    rfl
  exact hframe.trans (congrArg (fun v => { s with channels := v }) (eq_ofFn hchannel))

/-- Settles O36: each write as it acts on an enabled and on a disabled generator. -/
theorem carrierRegisterWrites : Obligations.CarrierRegisterWrites := by
  intro s g w c next off
  refine ⟨fun h => ?_, fun h => ?_, fun h => ⟨?_, ?_⟩⟩ <;>
    refine congrArg Host.Outcome.next ((completeWord_moved h _).trans (congrArg moved ?_))
  · change next (c.writePeriod w) = _
    rw [Carrier.writePeriod, applyPair_eq]
  · change next (c.writeHigh w) = _
    rw [Carrier.writeHigh, applyPair_eq]
  · change next c.turnOn = _
    have hself : next c = s := by simp [next, c, State.carrier]
    rw [Carrier.turnOn, applyReady_eq]
    split
    · exact hself
    · rfl
  · change (if c.enabled then markAllAbsent (next c.turnOff) else s) = _
    split
    · next hen =>
      have hoff : next c.turnOff = off := congrArg next (if_pos hen)
      rw [hoff, markAllAbsent_eq]
      rfl
    · rfl

/-- The positions of a period, one CLKIN period after another. -/
theorem tick_iterate {c : Carrier} (hc : c.Ok) (hen : c.enabled = true) (hpos : c.position = 0)
    (hout : c.outputHigh = true) {j : Nat} (hj : j < c.period) :
    Carrier.tick^[j] c = { c with position := j, outputHigh := decide (j < c.high) } := by
  obtain ⟨_, _, hhigh, _⟩ := hc
  induction j with
  | zero =>
    have h0 : decide (0 < c.high) = true := decide_eq_true (by omega)
    rw [Function.iterate_zero, id, h0, ← hpos, ← hout]
  | succ j ih =>
    rw [Function.iterate_succ_apply', ih (by omega)]
    simp only [Carrier.tick, hen, if_true, if_neg (Nat.not_le.mpr hj), Carrier.endHigh]
    split
    · next h => simp [h]
    · next h =>
      have hpart : (j < c.high) = (j + 1 < c.high) := propext (by omega)
      simp only [hpart, ← hen]

/-- Settles O38: the waveform by induction over the period, and its end by the tick that reaches it. -/
theorem carrierWaveform : Obligations.CarrierWaveform := by
  refine ⟨fun c hc hen hpos hout => ⟨fun j hj => ?_, ?_⟩, fun c hen => ?_⟩
  · rw [tick_iterate hc hen hpos hout hj]
  · obtain ⟨p, hp⟩ : ∃ p, c.period = p + 1 := Nat.exists_eq_add_of_le' (Nat.le_of_succ_le hc.1)
    rw [hp, Function.iterate_succ_apply', tick_iterate hc hen hpos hout (by omega)]
    simp only [Carrier.tick, hen, if_true, hp, Nat.le_refl, endPeriod_eq]
    split <;> simp [pairOf, ← hp, ← hen]
  · simp only [Carrier.tick, hen, Bool.false_eq_true, if_false]

/-! ### Pins (R111 to R116, R121) -/

theorem put_eq (style : DriveStyle) (l : Line) :
    style.put l = if style = .openDrain ∧ l = .high then none else some l := by
  cases style <;> cases l <;> rfl

theorem lineOf_eq (p : Pin) (l : Level) :
    p.lineOf l = if (l = .mark) = (p.invert = false) then .high else .low := by
  unfold Pin.lineOf
  cases l <;> cases p.invert <;> simp

/-- Settles O40: the driver is the list's first asserting source, or there is none. -/
theorem firstAssertingSourceDrivesThePin : Obligations.FirstAssertingSourceDrivesThePin := by
  intro s p x put
  have hput : ∀ l, x.style.put l = put l := put_eq x.style
  refine ⟨fun hr => by simp only [State.drive, hr, if_true], fun hr hnone => ?_, fun before y after hr hroute hbefore hy => ?_,
    fun n => ⟨by simp [State.asserts], rfl⟩, fun g => ⟨Iff.rfl, ?_⟩, fun o => ?_⟩
  · have hdriver : s.driver p = none := List.find?_eq_none.mpr fun y hy => by simp [hnone y hy]
    simp only [State.drive, hr, Bool.false_eq_true, if_false, hdriver]
    change (match x.mode with | .released => none | .drive => x.style.put x.level) = _
    rw [hput]
    cases x.mode <;> simp
  · have hdriver : s.driver p = some y := by
      change x.route.find? s.asserts = some y
      rw [hroute, List.find?_append, List.find?_eq_none.mpr (fun z hz => by simp [hbefore z hz]), Option.none_or,
        List.find?_cons_of_pos hy]
    simp only [State.drive, hr, Bool.false_eq_true, if_false, hdriver]
    rw [← lineOf_eq]
    exact hput _
  · simp only [State.sourceLevel]
    cases (s.carrier g).outputHigh <;> simp
  · refine ⟨fun hd => ?_, fun l hd => ?_⟩
    · simp only [State.sensed, hd]
      rfl
    · simp only [State.sensed, hd]
      rfl

end Sys2Proof.Proofs
end

section
/-! SUPPORT. The symbol decoder's work: replays and flushes come to their end, and the statements O46 and O47. -/

namespace Sys2Proof.Proofs

open Sys2Proof Sys2Proof.Machine Sys2Proof.Machine.Laws Sys2Proof.Stated

/-! ### A decoder's work between two phases -/

/-- No open space stands in the list, and a held match is of at least one phase, all of them in the list. -/
structure WorkSound (w : Work) : Prop where
  closed : ∀ x ∈ w.list, x.isOpen = false
  held : ∀ h, w.held = some h → 1 ≤ h.length ∧ h.length ≤ w.list.length

theorem workSound_of_ok {s : State} {w : Work} (h : WorkOk s w) : WorkSound w :=
  ⟨h.1, fun m hm => ⟨(h.2 m hm).1, (h.2 m hm).2.1⟩⟩

/-- With nothing in the list, nothing is held. -/
theorem WorkSound.held_none {w : Work} (h : WorkSound w) (hlist : w.list = []) : w.held = none := by
  cases hheld : w.held with
  | none => rfl
  | some m =>
    have hm := h.held m hheld
    rw [hlist] at hm
    exact absurd (hm.1.trans hm.2) (by decide)

/-- Emptied work is sound. -/
theorem workSound_empty (out : List CaptureRecord) : WorkSound { list := [], held := none, out := out } :=
  ⟨fun x hx => by simp at hx, fun m hm => by simp at hm⟩

/-- A fallback settles at least one phase, and leaves a part of the list at its end. -/
theorem fallBack_spec (s : State) {w : Work} (hne : w.list ≠ [])
    (hheld : ∀ h, w.held = some h → 1 ≤ h.length) :
    (fallBack s w).held = none ∧ (fallBack s w).list.length < w.list.length ∧ (fallBack s w).list <:+ w.list
      ∧ ∃ r, (fallBack s w).out = w.out ++ [r] := by
  have hpos := List.length_pos_of_ne_nil hne
  unfold fallBack
  cases hm : w.held with
  | some h =>
    have := hheld h hm
    exact ⟨rfl, by simp only [List.length_drop]; omega, List.drop_suffix _ _, _, rfl⟩
  | none =>
    cases hlist : w.list with
    | nil => exact absurd hlist hne
    | cons x rest => exact ⟨rfl, by simp, List.suffix_cons x rest, _, rfl⟩

section
variable {s : State} {set : List (Fin 64)}

/-- A list that a longer candidate begins with does not end in the open space. -/
theorem isOpen_of_hasLonger {x : Item} {l : List Item} (h : hasLonger s set (l ++ [x]) = true) : x.isOpen = false := by
  cases hx : x.isOpen with
  | false => rfl
  | true => rw [hasLonger_of_open (by rw [endsOpen_append_singleton, hx])] at h; exact absurd h (by decide)

/-- Appending one item: the phases held and to be replayed stay as many with nothing to replay, or become fewer. -/
theorem takeItem_sound {w : Work} (hw : WorkSound w) (x : Item) :
    WorkSound (takeItem s set x w).1
      ∧ (((takeItem s set x w).2 = [] ∧ (takeItem s set x w).1.list.length ≤ w.list.length + 1)
        ∨ ((takeItem s set x w).1.list = [] ∧ (takeItem s set x w).2.length < w.list.length + 1)) := by
  have hclosed : ∀ {x : Item}, x.isOpen = false → ∀ y ∈ w.list ++ [x], y.isOpen = false := fun hx y hy => by
    rcases List.mem_append.mp hy with hy | hy
    · exact hw.closed y hy
    · rw [List.mem_singleton.mp hy]; exact hx
  rcases takeItem_cases s set x w with ⟨m, -, -, e⟩ | ⟨m, -, hl, e⟩ | ⟨-, hl, e⟩ | ⟨-, -, e⟩ <;> rw [e]
  · exact ⟨workSound_empty _, .inl ⟨rfl, Nat.zero_le _⟩⟩
  · exact ⟨⟨hclosed (isOpen_of_hasLonger hl), fun h hh => by cases hh; simp⟩, .inl ⟨rfl, by simp⟩⟩
  · refine ⟨⟨hclosed (isOpen_of_hasLonger hl), fun h hh => ?_⟩, .inl ⟨rfl, by simp⟩⟩
    obtain ⟨h1, h2⟩ := hw.held h hh
    exact ⟨h1, by simp; omega⟩
  · obtain ⟨hnone, hlen, -, -⟩ := fallBack_spec s (w := { w with list := w.list ++ [x] }) (by simp)
      (fun h hh => (hw.held h hh).1)
    refine ⟨⟨fun y hy => by simp at hy, fun h hh => ?_⟩, .inr ⟨rfl, by simpa using hlen⟩⟩
    rw [show _ = _ from hnone] at hh
    cases hh

/-! ### The replay comes to its end (assumption log 28) -/

/-- A number that falls with every append: with n phases at hand, those to be taken come on top of n squared. -/
def replayMeasure (items : List Item) (w : Work) : Nat := (items.length + w.list.length) ^ 2 + items.length

theorem replayMeasure_le (items : List Item) (w : Work) :
    replayMeasure items w ≤ replayBound (items.length + w.list.length) := by
  unfold replayMeasure replayBound
  nlinarith

/-- Fewer phases at hand outweigh all that are to be taken again. -/
theorem sq_add_lt {n' a' n a : Nat} (h : (n' = n ∧ a' < a) ∨ (n' < n ∧ a' ≤ n')) : n' ^ 2 + a' < n ^ 2 + a := by
  rcases h with ⟨rfl, h⟩ | ⟨h, ha⟩
  · omega
  · nlinarith

theorem replayMeasure_take {w : Work} (hw : WorkSound w) (x : Item) (rest : List Item) :
    replayMeasure ((takeItem s set x w).2 ++ rest) (takeItem s set x w).1 < replayMeasure (x :: rest) w := by
  refine sq_add_lt ?_
  simp only [List.length_append, List.length_cons]
  rcases (takeItem_sound hw x).2 with ⟨h2, h1⟩ | ⟨h1, h2⟩
  · rw [h2, List.length_nil]
    omega
  · rw [h1, List.length_nil]
    omega

theorem replayMeasure_drop (x : Item) (rest : List Item) (w : Work) :
    replayMeasure rest w < replayMeasure (x :: rest) w := by
  refine sq_add_lt ?_
  simp only [List.length_cons]
  omega

theorem takeAll_nil (k : Nat) (w : Work) : takeAll s set k [] w = w := by
  cases k <;> rfl

/-- Any two bounds that reach the measure give the same. -/
theorem takeAll_enough {items : List Item} {w : Work} (hw : WorkSound w) {k j : Nat}
    (hk : replayMeasure items w ≤ k) (hj : replayMeasure items w ≤ j) :
    takeAll s set k items w = takeAll s set j items w := by
  induction k generalizing items w j with
  | zero =>
    cases items with
    | nil => rw [takeAll_nil, takeAll_nil]
    | cons x rest => exact absurd hk (Nat.not_le.mpr (Nat.zero_lt_of_lt (replayMeasure_drop x rest w)))
  | succ k ih =>
    cases items with
    | nil => rw [takeAll_nil, takeAll_nil]
    | cons x rest =>
      have hdrop := replayMeasure_drop x rest w
      have htake := replayMeasure_take (s := s) (set := set) hw x rest
      obtain ⟨j, rfl⟩ : ∃ i, j = i + 1 := Nat.exists_eq_add_of_le' (by omega)
      unfold takeAll
      split
      · exact ih hw (by omega) (by omega)
      · exact ih (takeItem_sound hw x).1 (by omega) (by omega)

theorem feed_eq_takeAll {items : List Item} {w : Work} (hw : WorkSound w) {k : Nat}
    (hk : replayMeasure items w ≤ k) : feed s set items w = takeAll s set k items w :=
  takeAll_enough hw (replayMeasure_le items w) hk

/-- R151: the first item is taken, and what it leaves to be replayed goes ahead of the others. -/
theorem feed_cons {w : Work} (hw : WorkSound w) (x : Item) (rest : List Item) : feed s set (x :: rest) w =
    if x.isOpen = true ∧ w.list = [] then feed s set rest w
    else feed s set ((takeItem s set x w).2 ++ rest) (takeItem s set x w).1 := by
  have hdrop := replayMeasure_drop x rest w
  have htake := replayMeasure_take (s := s) (set := set) hw x rest
  obtain ⟨k, hk⟩ : ∃ k, replayMeasure (x :: rest) w = k + 1 := Nat.exists_eq_add_of_le' (by omega)
  rw [feed_eq_takeAll hw hk.le, feed_eq_takeAll hw (k := k) (by omega),
    feed_eq_takeAll (takeItem_sound hw x).1 (k := k) (by omega)]
  rfl

/-- Whatever taking an item keeps, of the items to come and of sound work together, feeding keeps to their end. -/
theorem feed_induct {P : List Item → Work → Prop}
    (hdrop : ∀ x rest w, WorkSound w → P (x :: rest) w → x.isOpen = true → P rest w)
    (htake : ∀ x rest w, WorkSound w → P (x :: rest) w → P ((takeItem s set x w).2 ++ rest) (takeItem s set x w).1)
    {items : List Item} {w : Work} (hw : WorkSound w) (h : P items w) :
    WorkSound (feed s set items w) ∧ P [] (feed s set items w) := by
  induction hm : replayMeasure items w using Nat.strong_induction_on generalizing items w with
  | _ m ih =>
    subst hm
    cases items with
    | nil =>
      rw [feed_nil]
      exact ⟨hw, h⟩
    | cons x rest =>
      rw [feed_cons hw]
      split
      · next hx => exact ih _ (replayMeasure_drop x rest w) hw (hdrop x rest w hw h hx.1) rfl
      · exact ih _ (replayMeasure_take hw x rest) (takeItem_sound hw x).1 (htake x rest w hw h) rfl

/-- Feeding adds no phase. -/
theorem feed_length_le {w : Work} (hw : WorkSound w) (items : List Item) :
    WorkSound (feed s set items w) ∧ (feed s set items w).list.length ≤ items.length + w.list.length := by
  have h := feed_induct (s := s) (set := set)
    (P := fun l v => l.length + v.list.length ≤ items.length + w.list.length)
    (fun x rest v _ hv _ => by simp only [List.length_cons] at hv; omega)
    (fun x rest v hsound hv => by
      simp only [List.length_cons, List.length_append] at hv ⊢
      rcases (takeItem_sound (s := s) (set := set) hsound x).2 with ⟨h2, h1⟩ | ⟨h1, h2⟩
      · rw [h2, List.length_nil]
        omega
      · rw [h1, List.length_nil]
        omega) hw (Nat.le_refl _)
  exact ⟨h.1, by simpa using h.2⟩

end

/-! ### The count of phases held and settled (R156) -/

theorem sum_phasesOf_append (s : State) (out : List CaptureRecord) (r : CaptureRecord) :
    ((out ++ [r]).map (phasesOf s)).sum = (out.map (phasesOf s)).sum + phasesOf s r := by
  simp

/-- A fallback moves phases from the list to a record. -/
theorem fallBack_accounts {s : State} {w : Work} (hne : w.list ≠ [])
    (hheld : ∀ h, w.held = some h → h.length ≤ w.list.length ∧ (s.symbol h.member).lengths.length = h.length) :
    accountedFor s (fallBack s w) = accountedFor s w := by
  unfold fallBack
  cases hm : w.held with
  | some h =>
    obtain ⟨hle, hlen⟩ := hheld h hm
    simp only [accountedFor, sum_phasesOf_append, symbolRecord, phasesOf, List.length_drop, hlen]
    omega
  | none =>
    cases hlist : w.list with
    | nil => exact absurd hlist hne
    | cons x rest =>
      simp only [accountedFor, sum_phasesOf_append, noMatchRecord, phasesOf, hlist, List.length_cons]
      omega

/-- Taking one item accounts for it, and leaves work as R147 says. -/
theorem takeItem_accounts {s : State} {set : List (Fin 64)} {w : Work} (hw : WorkOk s w) (x : Item) :
    WorkOk s (takeItem s set x w).1
      ∧ accountedFor s (takeItem s set x w).1 + (takeItem s set x w).2.length = accountedFor s w + 1 := by
  refine ⟨⟨(takeItem_sound (workSound_of_ok hw) x).1.closed, fun h hh => ?_⟩, ?_⟩
  · refine ⟨((takeItem_sound (workSound_of_ok hw) x).1.held h hh).1, ((takeItem_sound (workSound_of_ok hw) x).1.held h hh).2, ?_⟩
    rcases takeItem_cases s set x w with ⟨m, -, -, e⟩ | ⟨m, hf, -, e⟩ | ⟨-, -, e⟩ | ⟨-, -, e⟩ <;> rw [e] at hh
    · cases hh
    · cases hh
      exact (firstFull_spec hf).2.2
    · exact (hw.2 h hh).2.2
    · rw [show _ = _ from (fallBack_spec s (w := { w with list := w.list ++ [x] }) (by simp)
        fun h hh => (hw.2 h hh).1).1] at hh
      cases hh
  · rcases takeItem_cases s set x w with ⟨m, hf, -, e⟩ | ⟨m, -, -, e⟩ | ⟨-, -, e⟩ | ⟨-, -, e⟩ <;> rw [e]
    · have hlen := (firstFull_spec hf).2.2
      simp only [List.length_append, List.length_singleton] at hlen
      simp only [accountedFor, sum_phasesOf_append, symbolRecord, phasesOf, hlen, List.length_nil]
      omega
    · simp only [accountedFor, List.length_append, List.length_singleton, List.length_nil]
      omega
    · simp only [accountedFor, List.length_append, List.length_singleton, List.length_nil]
      omega
    · have hfall := fallBack_accounts (s := s) (w := { w with list := w.list ++ [x] }) (by simp) fun h hh =>
        ⟨by simp only [List.length_append]; have := (hw.2 h hh).2.1; omega, (hw.2 h hh).2.2⟩
      simp only [accountedFor, List.length_append, List.length_singleton, List.length_nil] at hfall ⊢
      omega

/-- No item that a fallback leaves is an open space but the one that was taken. -/
theorem takeItem_countOpen {s : State} {set : List (Fin 64)} {w : Work} (hw : WorkSound w) (x : Item) :
    (takeItem s set x w).2.countP (·.isOpen) ≤ [x].countP (·.isOpen) := by
  rcases takeItem_cases s set x w with ⟨m, -, -, e⟩ | ⟨m, -, -, e⟩ | ⟨-, -, e⟩ | ⟨-, -, e⟩ <;> rw [e]
  · exact Nat.zero_le _
  · exact Nat.zero_le _
  · exact Nat.zero_le _
  · have hsuffix := (fallBack_spec s (w := { w with list := w.list ++ [x] }) (by simp)
      fun h hh => (hw.held h hh).1).2.2.1
    have hnone : w.list.countP (·.isOpen) = 0 := List.countP_eq_zero.mpr fun y hy => by simp [hw.closed y hy]
    calc _ ≤ (w.list ++ [x]).countP (·.isOpen) := hsuffix.sublist.countP_le
      _ = _ := by rw [List.countP_append, hnone, Nat.zero_add]

/-- Every phase that is fed is accounted for, but an open space may have been dropped. -/
theorem feed_accounts {s : State} {set : List (Fin 64)} {w : Work} (hw : WorkOk s w) (items : List Item) :
    WorkOk s (feed s set items w) ∧ accountedFor s (feed s set items w) ≤ accountedFor s w + items.length
      ∧ accountedFor s w + items.length ≤ accountedFor s (feed s set items w) + items.countP (·.isOpen) := by
  obtain ⟨-, hok, hle, hge⟩ := feed_induct (s := s) (set := set)
    (P := fun l v => WorkOk s v ∧ accountedFor s v + l.length ≤ accountedFor s w + items.length
      ∧ accountedFor s w + items.length + l.countP (·.isOpen)
        ≤ accountedFor s v + l.length + items.countP (·.isOpen))
    (fun x rest v _ ⟨hv, hle, hge⟩ hx => by
      simp only [List.length_cons, List.countP_cons, hx, if_true] at hle hge
      exact ⟨hv, by omega, by omega⟩)
    (fun x rest v hsound ⟨hv, hle, hge⟩ => by
      obtain ⟨hok, hacc⟩ := takeItem_accounts (set := set) hv x
      have hopen := takeItem_countOpen (s := s) (set := set) hsound x
      rw [← List.singleton_append, List.countP_append] at hge
      simp only [List.length_append, List.length_cons, List.length_nil, List.countP_append] at hle hge ⊢
      exact ⟨hok, by omega, by omega⟩)
    (workSound_of_ok hw) ⟨hw, Nat.le_refl _, Nat.le_refl _⟩
  simp only [List.length_nil, List.countP_nil, Nat.add_zero] at hle hge
  exact ⟨hok, hle, hge⟩

theorem countOpen_le_one {items : List Item} (h : OpenOnlyLast items) : items.countP (·.isOpen) ≤ 1 := by
  induction items with
  | nil => exact Nat.zero_le 1
  | cons x rest ih =>
    rw [List.countP_cons]
    split
    · next hx =>
      have hrest : rest = [] := h [] x rest rfl hx
      simp [hrest]
    · exact ih fun before y after hy => h (x :: before) y after (by rw [hy, List.cons_append])

/-- Settles O46: one item at a time, with the open space as the one item that may go unaccounted for. -/
theorem decoderAccountsForEveryPhase : Obligations.DecoderAccountsForEveryPhase := by
  intro s set items w hw t
  obtain ⟨hok, hle, hge⟩ := feed_accounts (set := set) hw items
  refine ⟨fun hclosed => ⟨hok, ?_⟩, fun hlast => ⟨hok, hle, ?_, fun hnil => ?_, fun x rest hcons => ?_⟩⟩
  · have hnone : items.countP (·.isOpen) = 0 := List.countP_eq_zero.mpr fun x hx => by simp [hclosed x hx]
    exact Nat.le_antisymm hle (by simpa [hnone] using hge)
  · exact hge.trans (Nat.add_le_add_left (countOpen_le_one hlast) _)
  · subst hnil
    exact feed_nil s set w
  · subst hcons
    exact feed_cons (workSound_of_ok hw) x rest

/-! ### The flush comes to its end (R154) -/

section
variable {s : State} {set : List (Fin 64)} {w : Work}

/-- A full match of the whole list settles it. -/
theorem flushStep_of_full {m : Fin 64} (hw : WorkSound w) (hne : w.list ≠ []) (hm : firstFull s set w.list = some m) :
    flushStep s set w = { list := [], held := none, out := w.out ++ [symbolRecord s m] } := by
  cases hlist : w.list with
  | nil => exact absurd hlist hne
  | cons x rest =>
    have hx : ¬ (x.isOpen = true ∧ rest = []) := fun h => by
      rw [hw.closed x (by simp [hlist])] at h
      exact absurd h.1 (by decide)
    simp only [flushStep, hlist, if_neg hx, hlist ▸ hm]

/-- Without one, a fallback settles a part of the list, and the rest is replayed. -/
theorem flushStep_of_none (hw : WorkSound w) (hne : w.list ≠ []) (hnone : firstFull s set w.list = none) :
    flushStep s set w = feed s set (fallBack s w).list { fallBack s w with list := [] } := by
  cases hlist : w.list with
  | nil => exact absurd hlist hne
  | cons x rest =>
    have hx : ¬ (x.isOpen = true ∧ rest = []) := fun h => by
      rw [hw.closed x (by simp [hlist])] at h
      exact absurd h.1 (by decide)
    simp only [flushStep, hlist, if_neg hx, hlist ▸ hnone]

theorem fallBack_emptied_sound (hne : w.list ≠ []) (hw : WorkSound w) :
    WorkSound { fallBack s w with list := [] } := by
  have hnone := (fallBack_spec s hne fun h hh => (hw.held h hh).1).1
  simp only [hnone]
  exact workSound_empty _

/-- A step settles at least one phase. -/
theorem flushStep_sound (hw : WorkSound w) (hne : w.list ≠ []) :
    WorkSound (flushStep s set w) ∧ (flushStep s set w).list.length < w.list.length := by
  cases hfull : firstFull s set w.list with
  | some m =>
    rw [flushStep_of_full hw hne hfull]
    exact ⟨workSound_empty _, List.length_pos_of_ne_nil hne⟩
  | none =>
    rw [flushStep_of_none hw hne hfull]
    have hlen := (fallBack_spec s hne fun h hh => (hw.held h hh).1).2.1
    have hfeed := feed_length_le (s := s) (set := set) (fallBack_emptied_sound (s := s) hne hw) (fallBack s w).list
    exact ⟨hfeed.1, hfeed.2.trans_lt hlen⟩

theorem flushAll_of_empty (h : w.list = []) (k : Nat) : flushAll s set k w = w := by
  cases k <;> simp [flushAll, h]

/-- Any two numbers of steps that reach the length of the list give the same. -/
theorem flushAll_enough (hw : WorkSound w) {k j : Nat} (hk : w.list.length ≤ k) (hj : w.list.length ≤ j) :
    flushAll s set k w = flushAll s set j w := by
  induction k generalizing w j with
  | zero =>
    have hnil : w.list = [] := List.length_eq_zero_iff.mp (Nat.le_zero.mp hk)
    rw [flushAll_of_empty hnil, flushAll_of_empty hnil]
  | succ k ih =>
    by_cases hnil : w.list = []
    · rw [flushAll_of_empty hnil, flushAll_of_empty hnil]
    · obtain ⟨hsound, hlen⟩ := flushStep_sound (s := s) (set := set) hw hnil
      obtain ⟨j, rfl⟩ : ∃ i, j = i + 1 := Nat.exists_eq_add_of_le' (by omega)
      simp only [flushAll, if_neg hnil]
      exact ih hsound (by omega) (by omega)

/-- A flush of a list that is not empty is one step, and then the flush of what that leaves. -/
theorem flushed_step (hw : WorkSound w) (hne : w.list ≠ []) :
    flushed s set w = flushed s set (flushStep s set w) := by
  obtain ⟨hsound, hlen⟩ := flushStep_sound (s := s) (set := set) hw hne
  have hunfold : flushed s set w = flushAll s set w.list.length (flushStep s set w) := by
    simp only [flushed, flushAll, if_neg hne]
  rw [hunfold]
  exact flushAll_enough hsound hlen.le (Nat.le_succ _)

/-- Whatever a step of a flush keeps of sound work, the flush keeps to the end, where the list is empty. -/
theorem flushed_induct {P : Work → Prop} (hstep : ∀ w, WorkSound w → w.list ≠ [] → P w → P (flushStep s set w))
    (hw : WorkSound w) (h : P w) :
    (flushed s set w).list = [] ∧ WorkSound (flushed s set w) ∧ P (flushed s set w) := by
  induction hm : w.list.length using Nat.strong_induction_on generalizing w with
  | _ m ih =>
    subst hm
    by_cases hnil : w.list = []
    · have hsame : flushed s set w = w := flushAll_of_empty hnil _
      rw [hsame]
      exact ⟨hnil, hw, h⟩
    · obtain ⟨hsound, hlen⟩ := flushStep_sound (s := s) (set := set) hw hnil
      rw [flushed_step hw hnil]
      exact ih _ hlen hsound (hstep w hw hnil h) rfl

/-- A step of a flush accounts for every phase. -/
theorem flushStep_accounts (hw : WorkOk s w) (hne : w.list ≠ []) :
    WorkOk s (flushStep s set w) ∧ accountedFor s (flushStep s set w) = accountedFor s w := by
  have hsound := workSound_of_ok hw
  have hempty : ∀ out, WorkOk s { list := [], held := none, out := out } := fun out =>
    ⟨fun x hx => by simp at hx, fun h hh => by simp at hh⟩
  cases hfull : firstFull s set w.list with
  | some m =>
    rw [flushStep_of_full hsound hne hfull]
    refine ⟨hempty _, ?_⟩
    simp only [accountedFor, sum_phasesOf_append, symbolRecord, phasesOf, (firstFull_spec hfull).2.2, List.length_nil]
    omega
  | none =>
    rw [flushStep_of_none hsound hne hfull]
    have hspec := fallBack_spec s hne fun h hh => (hsound.held h hh).1
    have hfall := fallBack_accounts (s := s) hne fun h hh => (hw.2 h hh).2
    have hok : WorkOk s { fallBack s w with list := [] } := by
      simp only [hspec.1]
      exact hempty _
    obtain ⟨hok', hle, hge⟩ := feed_accounts (set := set) hok (fallBack s w).list
    have hnone : (fallBack s w).list.countP (·.isOpen) = 0 :=
      List.countP_eq_zero.mpr fun x hx => by simp [hw.1 x (hspec.2.2.1.subset hx)]
    refine ⟨hok', ?_⟩
    simp only [accountedFor, List.length_nil, hnone, Nat.zero_add, Nat.add_zero] at hfall hle hge ⊢
    omega

end

/-- Settles O47: each step settles phases in R154's order, until none is left. -/
theorem flushLeavesTheDecoderEmpty : Obligations.FlushLeavesTheDecoderEmpty := by
  intro s set w hw full
  have hsound := workSound_of_ok hw
  have hne_of_held : ∀ h, w.held = some h → w.list ≠ [] := fun h hh hnil => by
    have := hsound.held_none hnil
    rw [hh] at this
    cases this
  refine ⟨?accounts, fun hnil => flushAll_of_empty hnil _, fun before m after hne hset hbefore hm => ?_,
    fun hnone => ⟨fun h hh => ?_, fun x rest hheld hlist => ?_⟩⟩
  case accounts =>
    obtain ⟨hempty, hdone, hacc⟩ := flushed_induct (s := s) (set := set)
      (P := fun v => WorkOk s v ∧ accountedFor s v = accountedFor s w)
      (fun v _ hne ⟨hv, hacc⟩ => ⟨(flushStep_accounts hv hne).1, (flushStep_accounts hv hne).2.trans hacc⟩)
      hsound ⟨hw, rfl⟩
    exact ⟨hempty, hdone.held_none hempty, hacc.2⟩
  · subst hset
    rw [flushed_step hsound hne, flushStep_of_full hsound hne (firstFull_of_none_before hbefore hm)]
    exact flushAll_of_empty rfl _
  · have hne := hne_of_held h hh
    rw [flushed_step hsound hne, flushStep_of_none hsound hne (firstFull_eq_none_iff.mpr hnone)]
    simp only [fallBack, hh, symbolRecord]
  · have hne : w.list ≠ [] := by simp [hlist]
    rw [flushed_step hsound hne, flushStep_of_none hsound hne (firstFull_eq_none_iff.mpr hnone)]
    simp only [fallBack, hheld, hlist, noMatchRecord]

end Sys2Proof.Proofs
end

section
/-! SUPPORT. The statements about accepted edges and frame ends: O43 and O44. -/

namespace Sys2Proof.Proofs

open Sys2Proof Sys2Proof.Machine Sys2Proof.Machine.Laws Sys2Proof.Stated

/-- The other level, in the statement's words. -/
theorem accept_eq (f : Machine.Filter) :
    f.accept = { accepted := if f.accepted = .mark then .space else .mark, run := 0 } := by
  cases hf : f.accepted <;> simp [Filter.accept, hf, Level.flip]

/-- A closed phase goes to the log of a RAW unit, and otherwise to the decoder (R134, R135). -/
theorem closePhase_eq (u : Fin 2) (p : Phase) (s : State) :
    let c := s.captureUnit u
    closePhase u p s = if c.config.mode = .raw then offerRecord u (.phase p.level p.length) s
      else decoded u (feed s c.decodeSet [{ phase := p, isOpen := false }] (workOf c)) s := by
  intro c
  unfold closePhase
  cases hmode : c.config.mode with
  | raw => simp only [if_true]
  | decode =>
    simp only [reduceCtorEq, if_false]
    exact keepWork_eq_decoded u _ s

/-- Settles O43: the edge's effect by the state that the unit's filter stands in. -/
theorem acceptedEdgeClosesThePhase : Obligations.AcceptedEdgeClosesThePhase := by
  intro s u f hr c hrun now other
  have hreached : edgeReached c.config f = true := decide_eq_true hrun
  have hother : f.accept = other := accept_eq f
  have hnow : ∀ x, s.setCapture u x = now x := fun _ => rfl
  refine ⟨fun hst => ?_, fun hst => ?_, fun age phases hst => ?_⟩ <;>
    refine congrArg Host.Outcome.next ((internalEvent_of hr _).trans ?_) <;>
    simp only [acceptedEdge, show (s.captureUnit u).state = _ from hst,
      show edgeReached (s.captureUnit u).config f = true from hreached, if_true, hother, hnow]
  · cases f.accepted <;> rfl
  · cases f.accepted <;> rfl
  · have hunit : (now (.inFrame other c.config.filter (min 255 (phases + 1)))).captureUnit u
        = { c with state := .inFrame other c.config.filter (min 255 (phases + 1)) } := by
      simp only [← hnow, State.setCapture, modUnit_eq, setUnit_captureUnit, if_true]
      rfl
    refine (closePhase_eq u _ _).trans ?_
    rw [show saturate255 (phases + 1) = min 255 (phases + 1) from rfl]
    simp only [show (s.captureUnit u).config = c.config from rfl, hunit]
    rfl

/-- Settles O44: both frame ends are one operation, with their own record, flag and next state. -/
theorem frameEndsByIdleOrStuck : Obligations.FrameEndsByIdleOrStuck := by
  intro s u f age phases hr c hst hrun ended
  refine ⟨fun hlevel hlong => ?_, fun hlevel hlong => ?_⟩ <;>
    refine congrArg Host.Outcome.next ((internalEvent_of hr _).trans ?_)
  · have hreached : idleReached (s.captureUnit u) = true :=
      (idleReached_iff _).mpr ⟨f, age, phases, hst, hlevel, hrun, hlong⟩
    simp only [idleTimeout, show (s.captureUnit u).state = _ from hst, hreached, if_true, endFrame,
      flushUnit_eq_decoderFlush]
    rfl
  · have hreached : stuckReached (s.captureUnit u) = true :=
      (stuckReached_iff _).mpr ⟨f, age, phases, hst, hlevel, hrun, hlong⟩
    simp only [stuckMark, show (s.captureUnit u).state = _ from hst, hreached, if_true, endFrame,
      flushUnit_eq_decoderFlush]
    rfl

end Sys2Proof.Proofs
end

section
/-! SUPPORT. Words as numbers, and the statements about what records and registers show: O8 and O9. -/

namespace Sys2Proof.Proofs

open Sys2Proof Sys2Proof.Machine Sys2Proof.Machine.Laws Sys2Proof.Stated

/-! ### Fields as numbers -/

/-- A field on the left of another stands above it. -/
theorem toNat_append_eq {w v : Nat} (x : BitVec w) (y : BitVec v) : (x ++ y).toNat = x.toNat * 2 ^ v + y.toNat := by
  rw [BitVec.toNat_append, ← Nat.shiftLeft_add_eq_or_of_lt y.isLt, Nat.shiftLeft_eq]

theorem toNat_ofBool_eq (b : Bool) : (BitVec.ofBool b).toNat = bitOf b := by
  cases b <;> rfl

theorem bitOf_le (b : Bool) : bitOf b ≤ 1 := by
  cases b <;> decide

theorem bitOf_eq_one (b : Bool) : decide (bitOf b = 1) = b := by
  cases b <;> rfl

theorem markBit_eq (l : Level) : l.markBit = decide (l = .mark) := by
  cases l <;> rfl

theorem lineBit_eq (l : Line) : l.bit = decide (l = .high) := by
  cases l <;> rfl

/-! ### Records (R85, R163, R186) -/

/-- The number of an outcome in CL_OUT0. -/
def outcomeNumber : FrameOutcome → Nat
  | .done => 1
  | .aborted => 2
  | .flushed => 3

theorem outcome_code_toNat (o : FrameOutcome) : o.code.toNat = outcomeNumber o := by
  cases o <;> rfl

/-- A completion record's three words as numbers. -/
theorem completion_words_toNat {r : Completion} (h : r.completed ≤ 255) :
    (r.words[0]).toNat = r.channel + 4 * outcomeNumber r.outcome + 16 * bitOf r.carrierAbsent + 256 * r.tag.toNat
      ∧ (r.words[1]).toNat = r.slot ∧ (r.words[2]).toNat = r.completed := by
  have hch := r.channel.isLt
  have hslot := r.slot.isLt
  refine ⟨?_, ?_, ?_⟩
  · change (r.tag ++ 0#3 ++ BitVec.ofBool r.carrierAbsent ++ r.outcome.code ++ BitVec.ofNat 2 r.channel).toNat = _
    simp only [toNat_append_eq, toNat_ofBool_eq, outcome_code_toNat, BitVec.toNat_ofNat]
    omega
  · change (0#11 ++ BitVec.ofNat 5 r.slot).toNat = _
    simp only [toNat_append_eq, BitVec.toNat_ofNat]
    omega
  · change (0#8 ++ BitVec.ofNat 8 r.completed).toNat = _
    simp only [toNat_append_eq, BitVec.toNat_ofNat]
    omega

/-- A completion record as the host reads it from CL_OUT0 to CL_OUT2. -/
def readCompletion (w0 w1 w2 : Nat) : Completion :=
  { channel := Fin.ofNat 4 w0, tag := BitVec.ofNat 8 (w0 / 256), slot := Fin.ofNat 32 w1
    outcome := if w0 / 4 % 4 = 1 then .done else if w0 / 4 % 4 = 2 then .aborted else .flushed
    completed := w2, carrierAbsent := decide (w0 / 16 % 2 = 1) }

theorem readCompletion_words {r : Completion} (h : r.completed ≤ 255) :
    readCompletion (r.words[0]).toNat (r.words[1]).toNat (r.words[2]).toNat = r := by
  obtain ⟨h0, h1, h2⟩ := completion_words_toNat h
  have hch := r.channel.isLt
  have hslot := r.slot.isLt
  have habsent := bitOf_le r.carrierAbsent
  have hout : outcomeNumber r.outcome ≤ 3 := by cases r.outcome <;> decide
  rw [h0, h1, h2, readCompletion]
  have hchannel : Fin.ofNat 4 (r.channel + 4 * outcomeNumber r.outcome + 16 * bitOf r.carrierAbsent
      + 256 * r.tag.toNat) = r.channel := Fin.ext (by simp only [Fin.val_ofNat]; omega)
  have hslot' : Fin.ofNat 32 r.slot.val = r.slot := Fin.ext (by simp only [Fin.val_ofNat]; omega)
  have htag : (r.channel + 4 * outcomeNumber r.outcome + 16 * bitOf r.carrierAbsent + 256 * r.tag.toNat) / 256
      = r.tag.toNat := by omega
  have hbit : (r.channel + 4 * outcomeNumber r.outcome + 16 * bitOf r.carrierAbsent + 256 * r.tag.toNat) / 16 % 2
      = bitOf r.carrierAbsent := by omega
  have hcode : (r.channel + 4 * outcomeNumber r.outcome + 16 * bitOf r.carrierAbsent + 256 * r.tag.toNat) / 4 % 4
      = outcomeNumber r.outcome := by omega
  have houtcome : (if outcomeNumber r.outcome = 1 then .done else if outcomeNumber r.outcome = 2 then .aborted
      else .flushed) = r.outcome := by cases r.outcome <;> rfl
  rw [hchannel, hslot', htag, hbit, hcode, houtcome, bitOf_eq_one, BitVec.ofNat_toNat, BitVec.setWidth_eq]

/-- The number of a capture record in CAP_OUT0, without its unit. -/
def recordHead : CaptureRecord → Nat
  | .phase level _ => 1 + 16 * bitOf (level = .mark)
  | .symbol index _ => 2 + 256 * index
  | .noMatch level _ => 3 + 16 * bitOf (level = .mark)
  | .frameEnd number _ stuck cut => 4 + 32 * bitOf stuck + 64 * bitOf cut + 256 * number.toNat
  | .overrun _ => 5

/-- The number of a capture record in CAP_OUT1. -/
def recordTail : CaptureRecord → Nat
  | .phase _ length => length
  | .symbol _ code => code.toNat
  | .noMatch _ length => length
  | .frameEnd _ phases _ _ => phases
  | .overrun lost => lost

/-- A capture record's two words as numbers. -/
theorem record_words_toNat (u : Fin 2) {r : CaptureRecord} (h : RecordInRange r) :
    ((r.words u)[0]).toNat = 8 * u + recordHead r ∧ ((r.words u)[1]).toNat = recordTail r := by
  have hu := u.isLt
  cases r with
  | phase level length =>
    change (0#11 ++ BitVec.ofBool level.markBit ++ BitVec.ofNat 1 u ++ 1#3).toNat = _
      ∧ (BitVec.ofNat 16 length).toNat = _
    change length ≤ 65535 at h
    simp only [toNat_append_eq, toNat_ofBool_eq, BitVec.toNat_ofNat, markBit_eq, recordHead, recordTail]
    omega
  | symbol i code =>
    change (BitVec.ofNat 8 i ++ 0#4 ++ BitVec.ofNat 1 u ++ 2#3).toNat = _ ∧ (0#8 ++ code).toNat = _
    have hi := i.isLt
    simp only [toNat_append_eq, BitVec.toNat_ofNat, recordHead, recordTail]
    omega
  | noMatch level length =>
    change (0#11 ++ BitVec.ofBool level.markBit ++ BitVec.ofNat 1 u ++ 3#3).toNat = _
      ∧ (BitVec.ofNat 16 length).toNat = _
    change length ≤ 65535 at h
    simp only [toNat_append_eq, toNat_ofBool_eq, BitVec.toNat_ofNat, markBit_eq, recordHead, recordTail]
    omega
  | frameEnd number phases stuck cut =>
    change (number ++ 0#1 ++ BitVec.ofBool cut ++ BitVec.ofBool stuck ++ 0#1 ++ BitVec.ofNat 1 u ++ 4#3).toNat = _
      ∧ (0#8 ++ BitVec.ofNat 8 phases).toNat = _
    change phases ≤ 255 at h
    simp only [toNat_append_eq, toNat_ofBool_eq, BitVec.toNat_ofNat, recordHead, recordTail]
    omega
  | overrun lost =>
    change (0#12 ++ BitVec.ofNat 1 u ++ 5#3).toNat = _ ∧ (0#8 ++ BitVec.ofNat 8 lost).toNat = _
    change lost ≤ 255 at h
    simp only [toNat_append_eq, BitVec.toNat_ofNat, recordHead, recordTail]
    omega

/-- The level that a record's bit 4 names. -/
def levelOfNumber (k : Nat) : Level := if k / 16 % 2 = 1 then .mark else .space

/-- A capture record as the host reads it from CAP_OUT0 and CAP_OUT1. -/
def readRecord (w0 w1 : Nat) : CaptureRecord :=
  if w0 % 8 = 1 then .phase (levelOfNumber w0) w1
  else if w0 % 8 = 2 then .symbol (Fin.ofNat 64 (w0 / 256)) (BitVec.ofNat 8 w1)
  else if w0 % 8 = 3 then .noMatch (levelOfNumber w0) w1
  else if w0 % 8 = 4 then
    .frameEnd (BitVec.ofNat 8 (w0 / 256)) w1 (decide (w0 / 32 % 2 = 1)) (decide (w0 / 64 % 2 = 1))
  else .overrun w1

theorem levelOfNumber_eq {k b : Nat} {level : Level} (hb : b < 16) (hk : k = b + 16 * bitOf (level = .mark)) :
    levelOfNumber k = level := by
  have hbit : k / 16 % 2 = bitOf (level = .mark) := by
    have := bitOf_le (level = .mark)
    omega
  rw [levelOfNumber, hbit]
  cases level <;> rfl

/-- The low three bits name the kind of a record, and the other fields stand where they are read. -/
theorem readRecord_words (u : Fin 2) (r : CaptureRecord) : readRecord (8 * u + recordHead r) (recordTail r) = r := by
  have hu := u.isLt
  cases r with
  | phase level length =>
    have hkind : (8 * u.val + recordHead (.phase level length)) % 8 = 1 := by
      simp only [recordHead]
      omega
    rw [readRecord, if_pos hkind, levelOfNumber_eq (level := level) (b := 8 * u + 1) (by omega)
      (by simp only [recordHead]; omega)]
    rfl
  | symbol i code =>
    have hi := i.isLt
    have hkind : (8 * u.val + recordHead (.symbol i code)) % 8 = 2 := by
      simp only [recordHead]
      omega
    have hindex : (8 * u.val + recordHead (.symbol i code)) / 256 = i := by
      simp only [recordHead]
      omega
    rw [readRecord, if_neg (by omega), if_pos hkind, hindex]
    simp [recordTail]
  | noMatch level length =>
    have hkind : (8 * u.val + recordHead (.noMatch level length)) % 8 = 3 := by
      simp only [recordHead]
      omega
    rw [readRecord, if_neg (by omega), if_neg (by omega), if_pos hkind,
      levelOfNumber_eq (level := level) (b := 8 * u + 3) (by omega) (by simp only [recordHead]; omega)]
    rfl
  | frameEnd number phases stuck cut =>
    have hstuck := bitOf_le stuck
    have hcut := bitOf_le cut
    have hfields : (8 * u.val + recordHead (.frameEnd number phases stuck cut)) % 8 = 4
        ∧ (8 * u.val + recordHead (.frameEnd number phases stuck cut)) / 256 = number.toNat
        ∧ (8 * u.val + recordHead (.frameEnd number phases stuck cut)) / 32 % 2 = bitOf stuck
        ∧ (8 * u.val + recordHead (.frameEnd number phases stuck cut)) / 64 % 2 = bitOf cut := by
      simp only [recordHead]
      omega
    obtain ⟨hkind, hnumber, hs, hc⟩ := hfields
    rw [readRecord, if_neg (by omega), if_neg (by omega), if_neg (by omega), if_pos hkind, hnumber, hs, hc,
      bitOf_eq_one, bitOf_eq_one]
    simp [recordTail]
  | overrun lost =>
    have hkind : (8 * u.val + recordHead (.overrun lost)) % 8 = 5 := by
      simp only [recordHead]
      omega
    rw [readRecord, if_neg (by omega), if_neg (by omega), if_neg (by omega), if_neg (by omega)]
    rfl

/-- Bit 3 of CAP_OUT0 is the unit. -/
theorem recordHead_div (u : Fin 2) (r : CaptureRecord) : (8 * u.val + recordHead r) / 8 % 2 = u := by
  have hu := u.isLt
  cases r <;> simp only [recordHead] <;> omega

/-- Settles O8: the places of the fields, and each record read back from its words. -/
theorem readBackLosesNoField : Obligations.ReadBackLosesNoField := by
  refine ⟨fun u v a b ha hb h => ?_, fun a b ha hb h => ?_, fun r hr => completion_words_toNat hr,
    fun u r hr => ?_⟩
  · obtain ⟨ha0, ha1⟩ := record_words_toNat u ha
    obtain ⟨hb0, hb1⟩ := record_words_toNat v hb
    rw [h] at ha0 ha1
    have hhead := ha0.symm.trans hb0
    have htail := ha1.symm.trans hb1
    refine ⟨?_, Fin.ext ?_⟩
    · rw [← readRecord_words u a, hhead, htail, readRecord_words]
    · rw [← recordHead_div u a, hhead, recordHead_div]
  · rw [← readCompletion_words ha, h, readCompletion_words hb]
  · have hwords := record_words_toNat u hr
    cases r <;> exact hwords

/-! ### Registers (R186) -/

section
variable (s : State)

/-- The number of a channel's state in TXn_STATUS. -/
def stateNumber : ChannelState → Nat
  | .idle => 0
  | .play _ => 1
  | .gap _ => 2
  | .held none => 3
  | .held (some _) => 4
  | .logwait _ => 5

theorem state_code_toNat (x : ChannelState) : x.code.toNat = stateNumber x := by
  cases x with
  | held c => cases c <;> rfl
  | _ => rfl

/-- The number of a unit's state in CAPn_STATUS. -/
def captureNumber : CaptureState → Nat
  | .off => 0
  | .armed _ => 1
  | .inFrame _ _ _ => 2
  | .stuck _ => 3

theorem capture_code_toNat (x : CaptureState) : x.code.toNat = captureNumber x := by
  cases x <;> rfl

/-- The tag that TXn_STATUS shows: the head's, or 0. -/
def headTag : List Descriptor → Nat
  | [] => 0
  | d :: _ => d.tag.toNat

theorem statusWord_toNat {ch : Channel} (h : ch.queue.length ≤ 6) : ch.statusWord.toNat
    = stateNumber ch.state + 8 * bitOf ch.abortPending + 16 * ch.queue.length + 128 * bitOf ch.holdPending
      + 256 * headTag ch.queue := by
  have htag : ∀ x : BitVec 8, (x ++ BitVec.ofBool ch.holdPending ++ BitVec.ofNat 3 ch.queue.length
      ++ BitVec.ofBool ch.abortPending ++ ch.state.code).toNat = stateNumber ch.state + 8 * bitOf ch.abortPending
      + 16 * ch.queue.length + 128 * bitOf ch.holdPending + 256 * x.toNat := by
    intro x
    simp only [toNat_append_eq, toNat_ofBool_eq, state_code_toNat, BitVec.toNat_ofNat]
    omega
  obtain ⟨_, _, _, _, _, _, queue, _⟩ := ch
  cases queue with
  | nil => exact htag 0#8
  | cons d rest => exact htag d.tag

theorem ctrlWord_toNat {ch : Channel} (h : ch.watermark ≤ 5) :
    ch.ctrlWord.toNat = bitOf ch.enabled + 16 * ch.watermark := by
  simp only [Channel.ctrlWord, toNat_append_eq, toNat_ofBool_eq, BitVec.toNat_ofNat]
  omega

/-- The channel at a place of the wait list, or 0. -/
def waitNumber (l : List (Fin 4)) (j : Nat) : Nat := match l[j]? with | some n => n | none => 0

/-- That place as CL_STATUS holds it. -/
def waitField (l : List (Fin 4)) (j : Nat) : BitVec 2 := match l[j]? with | some n => BitVec.ofNat 2 n | none => 0

theorem waitField_toNat (l : List (Fin 4)) (j : Nat) : (waitField l j).toNat = waitNumber l j := by
  unfold waitField waitNumber
  cases l[j]? with
  | none => rfl
  | some n => exact Nat.mod_eq_of_lt n.isLt

theorem clStatusWord_toNat {k : Nat} {l : List (Fin 4)} (hk : k ≤ 16) (hl : l.length ≤ 4) :
    (clStatusWord k l).toNat = k + 32 * l.length + 256 * waitNumber l 0 + 1024 * waitNumber l 1
      + 4096 * waitNumber l 2 + 16384 * waitNumber l 3 := by
  change (waitField l 3 ++ waitField l 2 ++ waitField l 1 ++ waitField l 0 ++ BitVec.ofNat 3 l.length
    ++ BitVec.ofNat 5 k).toNat = _
  simp only [toNat_append_eq, waitField_toNat, BitVec.toNat_ofNat]
  omega

theorem captureStatusWord_toNat {c : CaptureUnit} (h : c.log.length ≤ 48) :
    c.statusWord.toNat = captureNumber c.state + 4 * c.log.length + 256 * c.frameNumber.toNat := by
  change (c.frameNumber ++ BitVec.ofNat 6 c.log.length ++ c.state.code).toNat = _
  simp only [toNat_append_eq, capture_code_toNat, BitVec.toNat_ofNat]
  omega

/-- The number of a source in PINn_ROUTE. -/
def sourceNumber : Source → Nat
  | .tx n => n
  | .cg g => 4 + g

theorem source_code_toNat (x : Source) : x.code.toNat = sourceNumber x := by
  cases x with
  | tx n => revert n; decide
  | cg g => revert g; decide

/-- The source at a place of a route list, or 0. -/
def routeNumber (l : List Source) (j : Nat) : Nat := match l[j]? with | some x => sourceNumber x | none => 0

/-- That place as PINn_ROUTE holds it. -/
def routeField (l : List Source) (j : Nat) : BitVec 3 := match l[j]? with | some x => x.code | none => 0

theorem routeField_toNat (l : List Source) (j : Nat) : (routeField l j).toNat = routeNumber l j := by
  unfold routeField routeNumber
  cases l[j]? with
  | none => rfl
  | some x => exact source_code_toNat x

theorem routeWord_toNat {x : Pin} (h : x.route.length ≤ 3) : x.routeWord.toNat
    = x.route.length + 16 * routeNumber x.route 0 + 256 * routeNumber x.route 1 + 4096 * routeNumber x.route 2 := by
  change (0#1 ++ routeField x.route 2 ++ 0#1 ++ routeField x.route 1 ++ 0#1 ++ routeField x.route 0 ++ 0#2
    ++ BitVec.ofNat 2 x.route.length).toNat = _
  simp only [toNat_append_eq, routeField_toNat, BitVec.toNat_ofNat]
  omega

theorem cfgWord_toNat (x : Pin) : x.cfgWord.toNat = bitOf (x.mode = .drive) + 2 * bitOf (x.level = .high)
    + 4 * bitOf (x.style = .openDrain) + 8 * bitOf x.invert := by
  simp only [Pin.cfgWord, toNat_append_eq, toNat_ofBool_eq, lineBit_eq, BitVec.toNat_ofNat]
  omega

theorem result_code_toNat (r : Result) : r.code.toNat = resultNumber r := by
  cases r <;> rfl

end

/-- Settles O9: each status word as a number, under the bounds that its fields keep. -/
theorem statusRegistersShowTheirFields : Obligations.StatusRegistersShowTheirFields := by
  intro s ⟨hqueue, _⟩ hchannels ⟨hlog, hnodup, _⟩ hcapture ⟨hexp, _⟩ hroutes
  have hwait : s.waitList.length ≤ 4 := by simpa using hnodup.length_le_card
  refine ⟨rfl, ?result, fun _ => rfl, fun _ => rfl, fun _ => rfl, fun _ => rfl, fun _ => ⟨rfl, rfl⟩,
    fun _ => ⟨rfl, rfl⟩, fun n => ⟨?txStatus, ?txCtrl⟩, ?clStatus, fun u => ?capStatus, fun g => ?cgCtrl, ?timebase,
    ?sense, fun p => ⟨cfgWord_toNat _, ?route, ?sensed⟩⟩
  case result =>
    change (s.resultCode ++ s.result.code).toNat = _
    rw [toNat_append_eq, result_code_toNat]
    omega
  case txStatus =>
    refine (statusWord_toNat (hqueue n)).trans ?_
    cases (s.channel n).queue <;> rcases (s.channel n).state with _ | _ | _ | (_ | _) | _ <;> rfl
  case txCtrl => exact ctrlWord_toNat (hchannels n).2.2.2.2.2
  case clStatus => exact clStatusWord_toNat hlog hwait
  case capStatus =>
    refine (captureStatusWord_toNat (hcapture u).1).trans ?_
    cases (s.captureUnit u).state <;> rfl
  case cgCtrl =>
    change (0#14 ++ BitVec.ofBool (s.carrier g).ready ++ BitVec.ofBool (s.carrier g).enabled).toNat = _
    simp only [toNat_append_eq, toNat_ofBool_eq, BitVec.toNat_ofNat]
    omega
  case timebase =>
    change (0#12 ++ BitVec.ofNat 4 s.exponent).toNat = _
    simp only [toNat_append_eq, BitVec.toNat_ofNat]
    omega
  case sense =>
    change (0#8 ++ s.sensedByte (Config.outside s.freeCount)).toNat < 256
    have hlt := (s.sensedByte (Config.outside s.freeCount)).isLt
    simp only [toNat_append_eq, BitVec.toNat_ofNat]
    omega
  case route =>
    refine (routeWord_toNat (hroutes p).1).trans ?_
    rfl
  case sensed =>
    change (0#8 ++ s.sensedByte (Config.outside s.freeCount)).getLsbD p = _
    rw [BitVec.getLsbD_append, if_pos p.isLt, sensedByte_getLsbD, lineBit_eq]

end Sys2Proof.Proofs
end

section
/-! SUPPORT. What a change keeps of the promises about each block, and the transmit side's part of it: channels, marks of
beat events, the completion log and its records. -/

namespace Sys2Proof.Proofs

open Sys2Proof Sys2Proof.Machine Sys2Proof.Machine.Laws Sys2Proof.Stated

/-! ### The transmit side's promises -/

/-- A change keeps the promises about channels, marks of beat events, the completion log and its records. -/
structure TxKept (s t : State) : Prop where
  channels : ChannelsOk s → ChannelsOk t
  marks : ChannelsOk s → MarksOk s → MarksOk t
  completion : CompletionLogOk s → CompletionLogOk t
  records : RecordsOk s → RecordsOk t

theorem TxKept.trans {s t u : State} (h : TxKept s t) (k : TxKept t u) : TxKept s u :=
  ⟨fun hs => k.channels (h.channels hs), fun hs hm => k.marks (h.channels hs) (h.marks hs hm),
    fun hs => k.completion (h.completion hs), fun hs => k.records (h.records hs)⟩

/-- What a change of one channel alone keeps: its flags' states, its mark, whether it waits with a record, and the counts
of its context. -/
structure OwnStep (ch ch' : Channel) : Prop where
  ok : ch.Ok → ch'.Ok
  marks : ch.Ok → (ch.beatDue = true → channelDue ch = true) → ch'.beatDue = true → channelDue ch' = true
  waits : ∀ r, ch'.state = .logwait r ↔ ch.state = .logwait r
  counts : (∀ c, ch.state.context = some c → c.completed ≤ 255) → ∀ c, ch'.state.context = some c → c.completed ≤ 255

theorem OwnStep.refl (ch : Channel) : OwnStep ch ch := ⟨id, fun _ => id, fun _ => Iff.rfl, id⟩

/-- Changes of channels one by one, with log and wait list as they were. -/
theorem TxKept.of_own {s t : State} (h : ∀ n, OwnStep (s.channel n) (t.channel n)) (hlog : t.log = s.log)
    (hwait : t.waitList = s.waitList) : TxKept s t where
  channels hs n := (h n).ok (hs n)
  marks hs hm n := (h n).marks (hs n) (hm n)
  completion := by
    intro ⟨hle, hnodup, hmem, hown, hfull⟩
    refine ⟨hlog ▸ hle, hwait ▸ hnodup, fun n => ?_, fun n r hr => hown n r (((h n).waits r).mp hr), ?_⟩
    · rw [hwait, hmem]
      exact exists_congr fun r => ((h n).waits r).symm
    · rw [hlog, hwait]
      exact hfull
  records := by
    intro ⟨hctx, hwaits, hrec⟩
    exact ⟨fun n => (h n).counts (hctx n), fun n r hr => hwaits n r (((h n).waits r).mp hr), hlog ▸ hrec⟩

theorem TxKept.of_eq {s t : State} (hch : t.channels = s.channels) (hlog : t.log = s.log)
    (hwait : t.waitList = s.waitList) : TxKept s t := by
  have hchannel : ∀ n, t.channel n = s.channel n := fun n => by simp only [State.channel, hch]
  exact .of_own (fun n => hchannel n ▸ .refl _) hlog hwait

theorem TxKept.setChannel {s : State} {n : Fin 4} {ch : Channel} (h : OwnStep (s.channel n) ch) :
    TxKept s (s.setChannel n ch) := by
  refine .of_own (fun m => ?_) rfl rfl
  rw [setChannel_channel]
  split
  · next hm => exact hm ▸ h
  · exact .refl _

/-! ### A channel's own changes -/

/-- Only the mark of a beat event moves, to one that the promise allows. -/
theorem OwnStep.beatDue {ch : Channel} {b : Bool} (h : b = true → channelDue { ch with beatDue := b } = true) :
    OwnStep ch { ch with beatDue := b } :=
  ⟨id, fun _ _ => h, fun _ => Iff.rfl, id⟩

theorem OwnStep.beatTaken (ch : Channel) : OwnStep ch { ch with beatDue := false } :=
  .beatDue (fun h => absurd h (by decide))

theorem context_of_running {x : ChannelState} (h : x.code = 1 ∨ x.code = 2) : ∃ c, x.context = some c := by
  cases x with
  | play c => exact ⟨c, rfl⟩
  | gap c => exact ⟨c, rfl⟩
  | held c => cases c <;> simp [ChannelState.code] at h
  | idle => exact absurd h (by decide)
  | logwait r => exact absurd h (by simp [ChannelState.code])

theorem not_logwait_of_running {x : ChannelState} (h : x.code = 1 ∨ x.code = 2) (r : Completion) : x ≠ .logwait r := by
  rintro rfl
  exact absurd h (by simp [ChannelState.code])

/-- A channel with a head enters PLAY or GAP. -/
theorem OwnStep.run {ch : Channel} {x : ChannelState} (hx : x.code = 1 ∨ x.code = 2) (hq : ch.queue ≠ [])
    (hready : ch.Ok → ch.enabled = true ∧ ch.resumePending = false) (hwait : ∀ r, ch.state ≠ .logwait r)
    (hdue : ch.beatDue = false)
    (hcount : (∀ c, ch.state.context = some c → c.completed ≤ 255) → ∀ c, x.context = some c → c.completed ≤ 255) :
    OwnStep ch { ch with state := x } where
  ok h := by
    obtain ⟨hen, hres⟩ := hready h
    exact ⟨fun _ => hq, fun _ => hx.imp_right Or.inl, fun _ => hx, fun hr => absurd (hres ▸ hr) (by decide),
      fun hd => absurd (hen ▸ hd) (by decide), h.2.2.2.2.2⟩
  marks _ _ hb := absurd (hdue ▸ hb) (by decide)
  waits r := iff_of_false (not_logwait_of_running hx r) (hwait r)
  counts := hcount

/-- A channel enters HELD. -/
theorem OwnStep.hold {ch : Channel} {x : Option Context}
    (hframe : ch.Ok → ch.abortPending = false ∧ (x ≠ none → ch.queue ≠ [] ∧ ch.enabled = true))
    (hwait : ∀ r, ch.state ≠ .logwait r)
    (hcount : (∀ c, ch.state.context = some c → c.completed ≤ 255) → ∀ c, x = some c → c.completed ≤ 255) :
    OwnStep ch { ch with state := .held x, holdPending := false, beatDue := false } where
  ok h := by
    obtain ⟨habort, hctx⟩ := hframe h
    refine ⟨fun hx => (hctx (Option.isSome_iff_ne_none.mp hx)).1, fun hh => absurd hh Bool.false_ne_true,
      fun ha => absurd (habort ▸ ha) (by decide), fun _ => ?_, fun hd => ?_, h.2.2.2.2.2⟩
    · cases x
      · exact .inl rfl
      · exact .inr rfl
    · by_contra hx
      exact absurd ((hctx hx).2 ▸ hd) (by decide)
  marks _ _ hb := absurd hb Bool.false_ne_true
  waits r := iff_of_false (fun h => nomatch h) (hwait r)
  counts := hcount

/-! ### Records handed over -/

theorem postedChannel_ok {ch : Channel} (hw : ch.watermark ≤ 5) (habort : ch.abortPending = false)
    (hres : ch.resumePending = false) : (postedChannel ch).Ok := by
  cases hh : ch.holdPending <;> simp [Channel.Ok, postedChannel, hh, habort, hres, hw, ChannelState.context]

theorem postedChannel_marks {ch : Channel} (h : (postedChannel ch).beatDue = true) :
    channelDue (postedChannel ch) = true := by
  cases hh : ch.holdPending <;> simp [postedChannel, hh] at h ⊢
  simp [channelDue, Channel.canStart, h]

theorem postedChannel_noContext (ch : Channel) :
    (postedChannel ch).state.context = none ∧ ∀ r, (postedChannel ch).state ≠ .logwait r := by
  cases hh : ch.holdPending <;> simp [postedChannel, hh, ChannelState.context]

/-- The promises after a change of channel n, the log and the wait list: what channel n, a new record and the wait list
must meet. -/
theorem TxKept.of_channel {s t : State} {n : Fin 4} (hother : ∀ m ≠ n, t.channel m = s.channel m)
    (hok : ChannelsOk s → (t.channel n).Ok)
    (hmark : ChannelsOk s → MarksOk s → (t.channel n).beatDue = true → channelDue (t.channel n) = true)
    (hcompletion : CompletionLogOk s → CompletionLogOk t)
    (hrecords : RecordsOk s → (∀ c, (t.channel n).state.context = some c → c.completed ≤ 255)
      ∧ (∀ r, (t.channel n).state = .logwait r → r.completed ≤ 255) ∧ ∀ r ∈ t.log, r.completed ≤ 255) :
    TxKept s t where
  channels hs m := by
    by_cases hm : m = n
    · exact hm ▸ hok hs
    · exact hother m hm ▸ hs m
  marks hs hk m := by
    by_cases hm : m = n
    · exact hm ▸ hmark hs hk
    · rw [hother m hm]
      exact hk m
  completion := hcompletion
  records hs := by
    obtain ⟨hctx, hwait, hlog⟩ := hrecords hs
    refine ⟨fun m => ?_, fun m => ?_, hlog⟩ <;> by_cases hm : m = n
    · exact hm ▸ hctx
    · rw [hother m hm]
      exact hs.1 m
    · exact hm ▸ hwait
    · rw [hother m hm]
      exact hs.2.1 m

section
variable {s u : State} {n : Fin 4} {r : Completion}

/-- A record has entered a log that had room, and channel n did not wait and does not. -/
theorem completionLogOk_of_entry (hother : ∀ m ≠ n, u.channel m = s.channel m)
    (hnot : ∀ x, (s.channel n).state ≠ .logwait x) (hnot' : ∀ x, (u.channel n).state ≠ .logwait x)
    (hroom : s.log.length < 16) (hlog : u.log = s.log ++ [r]) (hwait : u.waitList = s.waitList)
    (hs : CompletionLogOk s) : CompletionLogOk u := by
  obtain ⟨-, hnodup, hmem, hown, hfull⟩ := hs
  have hempty : u.waitList = [] := by
    by_contra hne
    exact absurd (hfull (hwait ▸ hne)) (by omega)
  refine ⟨?_, hwait ▸ hnodup, fun m => ?_, fun m x hx => ?_, fun hne => absurd hempty hne⟩
  · rw [hlog, List.length_append]
    exact hroom
  · rw [hwait, hmem]
    by_cases hm : m = n
    · rw [hm]
      exact iff_of_false (fun ⟨x, hx⟩ => hnot x hx) (fun ⟨x, hx⟩ => hnot' x hx)
    · rw [hother m hm]
  · by_cases hm : m = n
    · exact absurd (hm ▸ hx) (hnot' x)
    · exact hown m x (hother m hm ▸ hx)

/-- A record waits with channel n, which did not wait, for a log without room. -/
theorem completionLogOk_of_wait (hother : ∀ m ≠ n, u.channel m = s.channel m)
    (hnot : ∀ x, (s.channel n).state ≠ .logwait x) (hst : (u.channel n).state = .logwait r) (hrn : r.channel = n)
    (hroom : ¬ s.log.length < 16) (hlog : u.log = s.log) (hwait : u.waitList = s.waitList ++ [n])
    (hs : CompletionLogOk s) : CompletionLogOk u := by
  obtain ⟨hle, hnodup, hmem, hown, -⟩ := hs
  have hnotMem : n ∉ s.waitList := fun hn =>
    have ⟨x, hx⟩ := (hmem n).mp hn
    hnot x hx
  refine ⟨hlog ▸ hle, ?_, fun m => ?_, fun m x hx => ?_, fun _ => ?_⟩
  · rw [hwait]
    exact hnodup.append (List.nodup_singleton n) (by simpa using hnotMem)
  · rw [hwait, List.mem_append, List.mem_singleton]
    by_cases hm : m = n
    · rw [hm]
      exact iff_of_true (.inr rfl) ⟨r, hst⟩
    · rw [hother m hm, ← hmem m]
      exact or_iff_left hm
  · by_cases hm : m = n
    · rw [hm, hst] at hx
      cases hx
      exact hrn.trans hm.symm
    · exact hown m x (hother m hm ▸ hx)
  · rw [hlog]
    omega

/-- The head of the wait list, channel n, leaves it for the entry that has become free. -/
theorem completionLogOk_of_admission {waits : List (Fin 4)} (hother : ∀ m ≠ n, u.channel m = s.channel m)
    (hnot' : ∀ x, (u.channel n).state ≠ .logwait x) (hlog : u.log.length = s.log.length)
    (hs : s.waitList = n :: waits) (hu : u.waitList = waits) (hok : CompletionLogOk s) : CompletionLogOk u := by
  obtain ⟨hle, hnodup, hmem, hown, hfull⟩ := hok
  rw [hs, List.nodup_cons] at hnodup
  refine ⟨hlog ▸ hle, hu ▸ hnodup.2, fun m => ?_, fun m x hx => ?_, fun _ => ?_⟩
  · rw [hu]
    by_cases hm : m = n
    · rw [hm]
      exact iff_of_false hnodup.1 (fun ⟨x, hx⟩ => hnot' x hx)
    · rw [hother m hm, ← hmem m, hs, List.mem_cons]
      exact (or_iff_right hm).symm
  · by_cases hm : m = n
    · exact absurd (hm ▸ hx) (hnot' x)
    · exact hown m x (hother m hm ▸ hx)
  · rw [hlog]
    exact hfull (hs ▸ List.cons_ne_nil _ _)

end

/-- A frame-end record of channel n is handed over from a state t that differs from s at channel n alone. -/
theorem handRecord_kept {s t : State} {n : Fin 4} {r : Completion} (hother : ∀ m ≠ n, t.channel m = s.channel m)
    (hlog : t.log = s.log) (hwait : t.waitList = s.waitList) (hnot : ∀ x, (s.channel n).state ≠ .logwait x)
    (hw : ChannelsOk s → (t.channel n).watermark ≤ 5) (habort : (t.channel n).abortPending = false)
    (hres : (t.channel n).resumePending = false) (hrn : r.channel = n) (hr : RecordsOk s → r.completed ≤ 255) :
    TxKept s (handRecord n r t) := by
  by_cases hroom : t.log.length < 16
  · obtain ⟨hctx, hnowait⟩ := postedChannel_noContext (t.channel n)
    have hchannel : ∀ m, (handRecord n r t).channel m = if m = n then postedChannel (t.channel n) else t.channel m :=
      fun m => by
        rw [handRecord_of_room hroom]
        simp only [setWhen_channel, setFlag_channel]
        exact setChannel_channel n _ t m
    have hlog' : (handRecord n r t).log = s.log ++ [r] := by
      rw [handRecord_of_room hroom]
      simp only [setWhen_log, setFlag_log, hlog]
    have hwait' : (handRecord n r t).waitList = s.waitList := by
      rw [handRecord_of_room hroom]
      simp only [setWhen_waitList, setFlag_waitList, hwait]
    have hself : (handRecord n r t).channel n = postedChannel (t.channel n) := (hchannel n).trans (if_pos rfl)
    have hothers : ∀ m ≠ n, (handRecord n r t).channel m = s.channel m := fun m hm =>
      ((hchannel m).trans (if_neg hm)).trans (hother m hm)
    refine .of_channel hothers (fun hs => hself ▸ postedChannel_ok (hw hs) habort hres)
      (fun _ _ => hself ▸ postedChannel_marks)
      (completionLogOk_of_entry hothers hnot (hself ▸ hnowait) (hlog ▸ hroom) hlog' hwait') (fun hs => ?_)
    rw [hself, hlog', hctx]
    refine ⟨fun c hc => (nomatch hc), fun x hx => absurd hx (hnowait x), fun x hx => ?_⟩
    rcases List.mem_append.mp hx with hx | hx
    · exact hs.2.2 x hx
    · exact List.mem_singleton.mp hx ▸ hr hs
  · have hchannel : ∀ m, (handRecord n r t).channel m
        = if m = n then { t.channel n with state := .logwait r, beatDue := false } else t.channel m := fun m => by
      rw [handRecord_of_full hroom]
      exact setChannel_channel n _ t m
    have hlog' : (handRecord n r t).log = s.log := by
      rw [handRecord_of_full hroom]
      exact hlog
    have hwait' : (handRecord n r t).waitList = s.waitList ++ [n] := by
      rw [handRecord_of_full hroom, ← hwait]
    have hself : (handRecord n r t).channel n = { t.channel n with state := .logwait r, beatDue := false } :=
      (hchannel n).trans (if_pos rfl)
    have hothers : ∀ m ≠ n, (handRecord n r t).channel m = s.channel m := fun m hm =>
      ((hchannel m).trans (if_neg hm)).trans (hother m hm)
    have hst : ((handRecord n r t).channel n).state = .logwait r := by rw [hself]
    refine .of_channel hothers (fun hs => ?_) (fun _ _ => ?_)
      (completionLogOk_of_wait hothers hnot hst hrn (hlog ▸ hroom) hlog' hwait') (fun hs => ?_)
    · rw [hself]
      exact ⟨fun h => (nomatch h), fun _ => .inr (.inr rfl), fun h => absurd (habort ▸ h) Bool.false_ne_true,
        fun h => absurd (hres ▸ h) Bool.false_ne_true, fun _ => rfl, hw hs⟩
    · rw [hself]
      exact fun hb => absurd hb Bool.false_ne_true
    · rw [hst, hlog']
      refine ⟨fun c hc => (nomatch hc), fun x hx => ?_, hs.2.2⟩
      cases hx
      exact hr hs

end Sys2Proof.Proofs
end

section
/-! SUPPORT. What the rows and commands of channels, queues and the completion log keep of the promises. -/

namespace Sys2Proof.Proofs

open Sys2Proof Sys2Proof.Machine Sys2Proof.Machine.Laws Sys2Proof.Stated

/-! ### Which parts a channel's row touches -/

/-- A flag's position is one that the mask keeps. -/
theorem twoPow_and_not_evtMask (f : Flag) : BitVec.twoPow 16 f.bit &&& ~~~(evtMask f.reg) = 0 := by
  refine BitVec.eq_of_getLsbD_eq fun i hi => ?_
  by_cases hib : i = f.bit
  · have hmask : (evtMask f.reg).getLsbD i = true := by
      rw [evtMask_getLsbD _ _ hi, hib]
      exact decide_eq_true (flag_place f).2.1
    simp [hmask]
  · simp [Ne.symm hib]

/-- Positions of EVT_PEND that hold no flag stay 0 (R169). -/
theorem pendOk_setFlag {s : State} (f : Flag) (h : ∀ r : Fin 2, s.pend[r] &&& ~~~(evtMask r) = 0) (r : Fin 2) :
    (s.setFlag f).pend[r] &&& ~~~(evtMask r) = 0 := by
  rw [setFlag_pend]
  split
  · next hreg =>
    have hor : ∀ a b m : Word, (a ||| b) &&& m = (a &&& m) ||| (b &&& m) := fun a b m => by
      refine BitVec.eq_of_getLsbD_eq fun i _ => ?_
      simp [Bool.and_or_distrib_right]
    rw [hor, h r, ← hreg, twoPow_and_not_evtMask]
    rfl
  · exact h r

/-- A change of channel n's part of the state: the channel, slots, the log with its wait list, and flags that become
pending. -/
def TxShape (n : Fin 4) (s t : State) : Prop :=
  ∃ ch slots log waits pend,
    t = { s.setChannel n ch with slots := slots, log := log, waitList := waits, pend := pend }
      ∧ ((∀ r : Fin 2, s.pend[r] &&& ~~~(evtMask r) = 0) → ∀ r : Fin 2, pend[r] &&& ~~~(evtMask r) = 0)

theorem TxShape.setChannel (n : Fin 4) (ch : Channel) (s : State) : TxShape n s (s.setChannel n ch) :=
  ⟨ch, s.slots, s.log, s.waitList, s.pend, rfl, id⟩

theorem TxShape.refl (n : Fin 4) (s : State) : TxShape n s s := by
  have h := TxShape.setChannel n (s.channel n) s
  rwa [setChannel_self] at h

theorem TxShape.trans {n : Fin 4} {s t u : State} (h : TxShape n s t) (k : TxShape n t u) : TxShape n s u := by
  obtain ⟨_, _, _, _, _, rfl, hp⟩ := h
  obtain ⟨ch, slots, log, waits, pend, rfl, kp⟩ := k
  refine ⟨ch, slots, log, waits, pend, ?_, fun hs => kp (hp hs)⟩
  simp [State.setChannel]

theorem TxShape.setQueues (n : Fin 4) (s : State) (slots : Vector Slot 32) (log : List Completion)
    (waits : List (Fin 4)) : TxShape n s { s with slots := slots, log := log, waitList := waits } := by
  refine ⟨s.channel n, slots, log, waits, s.pend, ?_, id⟩
  rw [setChannel_self]

theorem TxShape.setFlag (n : Fin 4) (f : Flag) (s : State) : TxShape n s (s.setFlag f) := by
  refine ⟨s.channel n, s.slots, s.log, s.waitList, (s.setFlag f).pend, ?_, pendOk_setFlag f⟩
  rw [setChannel_self]
  rfl

theorem TxShape.setWhen (n : Fin 4) (p : Prop) [Decidable p] (f : Flag) (s : State) : TxShape n s (setWhen p f s) := by
  unfold Stated.setWhen
  split
  · exact .setFlag n f s
  · exact .refl n s

theorem TxShape.units {n : Fin 4} {s t : State} (h : TxShape n s t) : t.units = s.units := by
  obtain ⟨_, _, _, _, _, rfl, -⟩ := h
  rfl

theorem TxShape.channel_of_ne {n : Fin 4} {s t : State} (h : TxShape n s t) {m : Fin 4} (hm : m ≠ n) :
    t.channel m = s.channel m := by
  obtain ⟨ch, _, _, _, _, rfl, -⟩ := h
  exact (setChannel_channel n ch s m).trans (if_neg hm)

theorem afterPosted_shape (n : Fin 4) (s : State) : TxShape n s (afterPosted n s) := by
  rw [afterPosted_eq]
  exact (TxShape.setChannel n _ s).trans (.setWhen n _ _ _)

theorem handRecord_shape (n : Fin 4) (r : Completion) (s : State) : TxShape n s (handRecord n r s) := by
  rcases handRecord_cases n r s with ⟨-, e⟩ | ⟨-, e⟩ <;> rw [e]
  · have hpost : TxShape n s (postRecord r s) := (TxShape.setQueues n s s.slots (s.log ++ [r]) s.waitList).trans (.setFlag n _ _)
    exact (hpost.trans (.setWhen n _ _ _)).trans (afterPosted_shape n _)
  · exact (TxShape.setChannel n _ s).trans (.setQueues n _ s.slots s.log _)

theorem frameEnd_shape (n : Fin 4) (o : FrameOutcome) (c : Context) (w : Nat) (s : State) :
    TxShape n s (frameEnd n o c w s) := by
  cases hq : (s.channel n).queue with
  | nil =>
    rw [frameEnd_nil hq]
    exact .refl n s
  | cons d rest =>
    rw [frameEnd_cons hq, examineLow_eq]
    refine .trans ?_ (handRecord_shape n _ _)
    refine .trans ?_ (.setWhen n _ _ _)
    exact (TxShape.setQueues n s _ s.log s.waitList).trans (.setChannel n _ _)

/-! ### What a channel's row keeps -/

/-- A row touches channel n's part alone and keeps the transmit side's promises. -/
structure TxRow (n : Fin 4) (s t : State) : Prop where
  shape : TxShape n s t
  kept : TxKept s t

theorem TxRow.refl (n : Fin 4) (s : State) : TxRow n s s := ⟨.refl n s, .of_eq rfl rfl rfl⟩

theorem TxRow.trans {n : Fin 4} {s t u : State} (h : TxRow n s t) (k : TxRow n t u) : TxRow n s u :=
  ⟨h.shape.trans k.shape, h.kept.trans k.kept⟩

theorem TxRow.setChannel {n : Fin 4} {s : State} {ch : Channel} (h : OwnStep (s.channel n) ch) :
    TxRow n s (s.setChannel n ch) := ⟨.setChannel n ch s, .setChannel h⟩

theorem TxRow.setFlag (n : Fin 4) (f : Flag) (s : State) : TxRow n s (s.setFlag f) :=
  ⟨.setFlag n f s, .of_eq rfl rfl rfl⟩

theorem TxRow.setWhen (n : Fin 4) (p : Prop) [Decidable p] (f : Flag) (s : State) : TxRow n s (setWhen p f s) :=
  ⟨.setWhen n p f s, .of_eq (by simp) (by simp) (by simp)⟩

theorem beatTaken_row (n : Fin 4) (s : State) : TxRow n s (beatTaken n s) := .setChannel (.beatTaken _)

/-- The frame of channel n ends from a state t that differs from s at that channel alone; with no head nothing
happens. -/
theorem frameEnd_kept_of {s t : State} {n : Fin 4} {c : Context} (hother : ∀ m ≠ n, t.channel m = s.channel m)
    (hlog : t.log = s.log) (hwait : t.waitList = s.waitList) (hnot : ∀ x, (s.channel n).state ≠ .logwait x)
    (hw : ChannelsOk s → (t.channel n).watermark ≤ 5) (hc : RecordsOk s → c.completed ≤ 255)
    (hnil : (t.channel n).queue = [] → TxKept s t) (o : FrameOutcome) (w : Nat) :
    TxKept s (frameEnd n o c w t) := by
  cases hq : (t.channel n).queue with
  | nil =>
    rw [frameEnd_nil hq]
    exact hnil hq
  | cons d rest =>
    rw [frameEnd_cons hq, examineLow_eq]
    have hchannel : ∀ m, ((t.setSlot d.slot { t.slot d.slot with frames := (t.slot d.slot).frames - 1 }).setChannel n
        { t.channel n with queue := rest, abortPending := false, resumePending := false }).channel m
        = if m = n then { t.channel n with queue := rest, abortPending := false, resumePending := false }
          else t.channel m := fun m => setChannel_channel n _ _ m
    refine handRecord_kept (fun m hm => ?_) ?_ ?_ hnot (fun hs => ?_) ?_ ?_ rfl hc
    · rw [setWhen_channel, hchannel, if_neg hm, hother m hm]
    · rw [setWhen_log]
      exact hlog
    · rw [setWhen_waitList]
      exact hwait
    all_goals rw [setWhen_channel, hchannel, if_pos rfl]
    exact hw hs

/-- The frame of a channel that does not wait ends. -/
theorem frameEnd_row {s : State} {n : Fin 4} {c : Context} (hnot : ∀ x, (s.channel n).state ≠ .logwait x)
    (hc : RecordsOk s → c.completed ≤ 255) (o : FrameOutcome) (w : Nat) : TxRow n s (frameEnd n o c w s) :=
  ⟨frameEnd_shape n o c w s, frameEnd_kept_of (fun _ _ => rfl) rfl rfl hnot (fun hs => (hs n).2.2.2.2.2) hc
    (fun _ => .of_eq rfl rfl rfl) o w⟩

theorem not_logwait_of_context {x : ChannelState} {c : Context} (h : x.context = some c) (r : Completion) :
    x ≠ .logwait r := by
  rintro rfl
  cases h

section
variable {s : State} {n : Fin 4} {d : Descriptor} {rest : List Descriptor}

/-- The channel has a head and no beat event left to take, does not wait, and may play. -/
structure MayRun (ch : Channel) : Prop where
  head : ch.queue ≠ []
  due : ch.beatDue = false
  ready : ch.Ok → ch.enabled = true ∧ ch.resumePending = false
  notWaiting : ∀ r, ch.state ≠ .logwait r

/-- A count of repetitions completed that stays in range where the channel's own context is. -/
def CountOk (ch : Channel) (c : Context) : Prop :=
  (∀ c', ch.state.context = some c' → c'.completed ≤ 255) → c.completed ≤ 255

theorem beginPhase_row (h : MayRun (s.channel n)) (d : Descriptor) {c : Context} (hc : CountOk (s.channel n) c) :
    TxRow n s (beginPhase n d c s) := by
  obtain ⟨absent, e⟩ := beginPhase_cases n d c s
  rw [e]
  refine .setChannel (.run (.inl rfl) h.head h.ready h.notWaiting h.due fun hs c' hc' => ?_)
  cases hc'
  exact hc hs

theorem beginSymbol_row (h : MayRun (s.channel n)) (d : Descriptor) {c : Context} (hc : CountOk (s.channel n) c) :
    TxRow n s (beginSymbol n d c s) := beginPhase_row h d hc

theorem beginGap_row (h : MayRun (s.channel n)) (d : Descriptor) {c : Context} (hc : CountOk (s.channel n) c) :
    TxRow n s (beginGap n d c s) := by
  refine .setChannel (.run (.inr rfl) h.head h.ready h.notWaiting h.due fun hs c' hc' => ?_)
  cases hc'
  exact hc hs

theorem startFrame_row (h : MayRun (s.channel n)) : TxRow n s (startFrame n s) := by
  unfold startFrame
  split
  · exact beginSymbol_row h _ (fun _ => Nat.zero_le _)
  · exact .refl n s

theorem enterHeld_row {x : Option Context} (h : OwnStep (s.channel n)
    { s.channel n with state := .held x, holdPending := false, beatDue := false }) : TxRow n s (enterHeld n x s) :=
  (TxRow.setChannel h).trans (.setFlag n _ _)

/-! ### What a channel does at a beat event -/

/-- A channel in PLAY or GAP, with its beat event taken, may play on. -/
theorem mayRun_of_running {ch : Channel} (hrun : ch.state.code = 1 ∨ ch.state.code = 2) (hq : ch.queue ≠ [])
    (hdue : ch.beatDue = false) : MayRun ch := by
  obtain ⟨c0, hctx⟩ := context_of_running hrun
  refine ⟨hq, hdue, fun ⟨_, _, _, hres, hen, _⟩ => ⟨?_, ?_⟩, not_logwait_of_running hrun⟩
  · by_contra h
    exact absurd (hctx.symm.trans (hen (by simpa using h))) (by simp)
  · by_contra h
    have hheld := hres (by simpa using h)
    rcases hrun with h1 | h1 <;> rw [h1] at hheld <;> exact absurd hheld (by decide)

/-- A channel whose phase or gap has ended decides what comes next. -/
theorem boundary_row {next : NextStep × Context} (hrun : (s.channel n).state.code = 1 ∨ (s.channel n).state.code = 2)
    (hq : (s.channel n).queue ≠ []) (hdue : (s.channel n).beatDue = false) (hc : CountOk (s.channel n) next.2)
    (d : Descriptor) : TxRow n s (boundary n d next s) := by
  obtain ⟨x, c⟩ := next
  have hmay := mayRun_of_running hrun hq hdue
  rcases boundary_cases n d x c s with ⟨o, e, -⟩ | ⟨hab, -, -, e⟩ | ⟨-, -, -, e⟩ | ⟨-, -, -, e⟩ <;> rw [e]
  · exact frameEnd_row hmay.notWaiting (fun hs => hc (hs.1 n)) o _
  · refine enterHeld_row (.hold (fun hok => ⟨hab, fun _ => ⟨hq, (hmay.ready hok).1⟩⟩) hmay.notWaiting
      fun hs c' hc' => ?_)
    cases hc'
    exact hc hs
  · exact beginSymbol_row hmay d hc
  · exact beginGap_row hmay d hc

theorem endRepetition_completed (d : Descriptor) (c : Context) : (endRepetition d c).2.completed = c.completed := by
  unfold endRepetition
  split <;> rfl

theorem saturate255_le (k : Nat) : saturate255 k ≤ 255 := Nat.min_le_left _ _

theorem afterSymbol_completed (d : Descriptor) (len : Nat) (c : Context) :
    (afterSymbol d len c).2.completed = c.completed
      ∨ (afterSymbol d len c).2.completed = saturate255 (c.completed + 1) := by
  unfold afterSymbol
  split
  · exact .inl rfl
  · right
    split
    · rfl
    · exact endRepetition_completed d _

theorem startHead_row (n : Fin 4) (s : State) : TxRow n s (startHead n s) := by
  unfold startHead
  simp only
  split
  · next h =>
    obtain ⟨-, hidle, hstart⟩ := h
    obtain ⟨hen, hq⟩ := (canStart_iff _).mp hstart
    refine (beatTaken_row n s).trans (startFrame_row ?_)
    rw [beatTaken_eq, setChannel_channel, if_pos rfl]
    refine ⟨hq, rfl, fun hok => ⟨hen, ?_⟩, fun r hr => by simp [hidle] at hr⟩
    by_contra hres
    have := hok.2.2.2.1 (by simpa using hres)
    simp [hidle, ChannelState.code] at this
  · exact .refl n s

theorem phaseEnd_row (n : Fin 4) (s : State) : TxRow n s (phaseEnd n s) := by
  unfold phaseEnd
  split
  · next c d rest hst hq =>
    split
    · have hq' : ((beatTaken n s).channel n).queue ≠ [] := by simp [hq]
      have hst' : ((beatTaken n s).channel n).state = .play c := by simp [hst]
      have hrun : ((beatTaken n s).channel n).state.code = 1 ∨ ((beatTaken n s).channel n).state.code = 2 :=
        .inl (by rw [hst']; rfl)
      have hdue : ((beatTaken n s).channel n).beatDue = false := by simp
      have hcount : CountOk ((beatTaken n s).channel n) c := fun h => h c (by rw [hst']; rfl)
      refine (beatTaken_row n s).trans ?_
      split
      · exact beginPhase_row (mayRun_of_running hrun hq' hdue) d hcount
      · refine boundary_row hrun hq' hdue (fun h => ?_) d
        rcases afterSymbol_completed d (s.frameLength d) c with e | e <;> rw [e]
        · exact hcount h
        · exact saturate255_le _
    · exact .refl n s
  · exact .refl n s

theorem gapEnd_row (n : Fin 4) (s : State) : TxRow n s (gapEnd n s) := by
  unfold gapEnd
  split
  · next c d rest hst hq =>
    split
    · have hst' : ((beatTaken n s).channel n).state = .gap c := by simp [hst]
      refine (beatTaken_row n s).trans (boundary_row (.inr (by rw [hst']; rfl)) (by simp [hq]) (by simp)
        (fun h => ?_) d)
      rw [endRepetition_completed]
      exact h c (by rw [hst']; rfl)
    · exact .refl n s
  · exact .refl n s

/-- A resume that is taken is no longer pending, and neither is the beat event. -/
theorem OwnStep.resumed (ch : Channel) : OwnStep ch { ch with beatDue := false, resumePending := false } where
  ok := fun ⟨hctx, hhold, habort, _, hen, hw⟩ =>
    ⟨hctx, hhold, habort, fun h => absurd h Bool.false_ne_true, hen, hw⟩
  marks _ _ h := absurd h Bool.false_ne_true
  waits _ := Iff.rfl
  counts := id

/-- A channel leaves HELD without a frame for IDLE. -/
theorem OwnStep.leaveHeld {ch : Channel} (hst : ch.state = .held none) (hres : ch.resumePending = false)
    (hdue : ch.beatDue = false) : OwnStep ch { ch with state := .idle } where
  ok := by
    intro ⟨_, hhold, habort, _, _, hw⟩
    rw [hst] at hhold habort
    exact ⟨fun h => (nomatch h), fun h => absurd (hhold h) (by decide), fun h => absurd (habort h) (by decide),
      fun h => absurd (hres ▸ h) Bool.false_ne_true, fun _ => rfl, hw⟩
  marks _ _ h := absurd (hdue ▸ h) Bool.false_ne_true
  waits r := by
    rw [hst]
    exact iff_of_false (fun h => nomatch h) (fun h => nomatch h)
  counts _ c h := nomatch h

theorem resumeTaken_row (n : Fin 4) (s : State) : TxRow n s (resumeTaken n s) := by
  unfold resumeTaken
  simp only
  split
  · have hresumed : (beatTaken n s).modChannel n (fun ch => { ch with resumePending := false })
        = s.setChannel n { s.channel n with beatDue := false, resumePending := false } := by
      simp only [beatTaken_eq, modChannel_eq, setChannel_setChannel, setChannel_channel, if_true]
    have hstep : TxRow n s (s.setChannel n { s.channel n with beatDue := false, resumePending := false }) :=
      .setChannel (.resumed _)
    have hself := setChannel_channel n { s.channel n with beatDue := false, resumePending := false } s n
    rw [if_pos rfl] at hself
    rw [hresumed]
    split
    · next c d rest hst hq =>
      have hmay : MayRun ((s.setChannel n { s.channel n with beatDue := false, resumePending := false }).channel n) := by
        rw [hself]
        refine ⟨by simp [hq], rfl, fun hok => ⟨?_, rfl⟩, fun r hr => by simp [hst] at hr⟩
        by_contra hen
        have := hok.2.2.2.2.1 (by simpa using hen)
        simp [hst, ChannelState.context] at this
      have hcount : CountOk ((s.setChannel n { s.channel n with beatDue := false, resumePending := false }).channel n) c :=
        fun h => h c (by rw [hself]; simp [hst, ChannelState.context])
      refine hstep.trans ?_
      split
      · exact beginGap_row hmay d hcount
      · exact beginSymbol_row hmay d hcount
    · next hst =>
      refine hstep.trans ?_
      split
      · next hstart =>
        obtain ⟨hen, hq⟩ := (canStart_iff _).mp hstart
        refine startFrame_row ?_
        rw [hself]
        exact ⟨hq, rfl, fun _ => ⟨hen, rfl⟩, fun r hr => by simp [hst] at hr⟩
      · rw [setState_eq, hself]
        refine .setChannel ?_
        rw [hself]
        exact .leaveHeld hst rfl rfl
    · exact .refl n s
  · exact .refl n s

end

theorem takeBeat_row (n : Fin 4) (s : State) : TxRow n s (takeBeat n s) := by
  rcases takeBeat_cases n s with e | e | e | e | e <;> rw [e]
  · exact startHead_row n s
  · exact phaseEnd_row n s
  · exact gapEnd_row n s
  · exact resumeTaken_row n s
  · exact .refl n s

end Sys2Proof.Proofs
end

section
/-! SUPPORT. What the commands and writes of channels, queues and the completion log keep of the promises. -/

namespace Sys2Proof.Proofs

open Sys2Proof Sys2Proof.Machine Sys2Proof.Machine.Laws Sys2Proof.Stated

/-! ### HOLD, RESUME, ABORT and RELEASE -/

theorem OwnStep.holdPending {ch : Channel} (h : ch.state.code = 1 ∨ ch.state.code = 2 ∨ ch.state.code = 5) :
    OwnStep ch { ch with holdPending := true } :=
  ⟨fun ⟨hctx, _, habort, hres, hen, hw⟩ => ⟨hctx, fun _ => h, habort, hres, hen, hw⟩, fun _ => id, fun _ => Iff.rfl, id⟩

theorem OwnStep.holdCancelled (ch : Channel) : OwnStep ch { ch with holdPending := false } :=
  ⟨fun ⟨hctx, _, habort, hres, hen, hw⟩ => ⟨hctx, fun h => absurd h Bool.false_ne_true, habort, hres, hen, hw⟩,
    fun _ => id, fun _ => Iff.rfl, id⟩

theorem OwnStep.abortPending {ch : Channel} (h : ch.state.code = 1 ∨ ch.state.code = 2) :
    OwnStep ch { ch with abortPending := true } :=
  ⟨fun ⟨hctx, hhold, _, hres, hen, hw⟩ => ⟨hctx, hhold, fun _ => h, hres, hen, hw⟩, fun _ => id, fun _ => Iff.rfl, id⟩

theorem OwnStep.resumePending {ch : Channel} (h : isHeld ch.state = true) :
    OwnStep ch { ch with resumePending := true } where
  ok := by
    intro ⟨hctx, hhold, habort, _, hen, hw⟩
    refine ⟨hctx, hhold, habort, fun _ => ?_, hen, hw⟩
    cases hst : ch.state with
    | held c =>
      cases c
      · exact .inl rfl
      · exact .inr rfl
    | _ => simp [hst, isHeld] at h
  marks _ hm hdue := by
    have hdue' := hm hdue
    cases hst : ch.state with
    | held c => cases c <;> simp [hst, channelDue] at hdue' ⊢ <;> simp [hdue']
    | _ => simp [hst, isHeld] at h
  waits _ := Iff.rfl
  counts := id

theorem context_isSome_iff (x : ChannelState) : x.context.isSome = true ↔ x.code = 1 ∨ x.code = 2 ∨ x.code = 4 := by
  cases x with
  | held c => cases c <;> simp [ChannelState.context, ChannelState.code]
  | _ => simp [ChannelState.context, ChannelState.code]

/-- The flags' promise looks at a state's code alone. -/
theorem ok_of_same_code {ch : Channel} {x : ChannelState} (hcode : x.code = ch.state.code) (due : Bool) (h : ch.Ok) :
    Channel.Ok { ch with state := x, beatDue := due } := by
  have hsome : x.context.isSome = true ↔ ch.state.context.isSome = true := by
    rw [context_isSome_iff, context_isSome_iff, hcode]
  obtain ⟨hctx, hhold, habort, hres, hen, hw⟩ := h
  refine ⟨fun hx => hctx (hsome.mp hx), ?_, ?_, ?_, fun hd => ?_, hw⟩
  · simpa only [hcode] using hhold
  · simpa only [hcode] using habort
  · simpa only [hcode] using hres
  · by_contra hx
    have hs := hsome.mp (Option.isSome_iff_ne_none.mpr hx)
    rw [hen hd] at hs
    cases hs

theorem released_context (x : ChannelState) : x.released.context = x.context.map Context.released := by
  cases x with
  | held c => cases c <;> rfl
  | _ => rfl

theorem released_code (x : ChannelState) : x.released.code = x.code := by
  cases x with
  | held c => cases c <;> rfl
  | _ => rfl

theorem released_logwait (x : ChannelState) (r : Completion) : x.released = .logwait r ↔ x = .logwait r := by
  cases x with
  | held c => cases c <;> simp [ChannelState.released]
  | _ => simp [ChannelState.released]

theorem channelDue_released (ch : Channel) : channelDue { ch with state := ch.state.released } = channelDue ch := by
  unfold channelDue
  cases hst : ch.state with
  | held c => cases c <;> rfl
  | _ => rfl

theorem OwnStep.released (ch : Channel) : OwnStep ch { ch with state := ch.state.released } where
  ok := ok_of_same_code (released_code _) ch.beatDue
  marks _ hm h := (channelDue_released ch).trans (hm h)
  waits := released_logwait ch.state
  counts hs c hc := by
    rw [released_context] at hc
    obtain ⟨c', hc', rfl⟩ := Option.map_eq_some_iff.mp hc
    exact hs c' hc'

theorem code_of_not_held {x : ChannelState} (hheld : isHeld x = false) (hidle : x ≠ .idle) :
    x.code = 1 ∨ x.code = 2 ∨ x.code = 5 := by
  cases x with
  | idle => exact absurd rfl hidle
  | held c => exact absurd hheld (by simp [isHeld])
  | play c => exact .inl rfl
  | gap c => exact .inr (.inl rfl)
  | logwait r => exact .inr (.inr rfl)

/-- An IDLE channel is held. -/
theorem OwnStep.holdIdle {ch : Channel} (hst : ch.state = .idle) (hhold : ch.holdPending = false) :
    OwnStep ch { ch with state := .held none, beatDue := false } := by
  have h : OwnStep ch { ch with state := .held none, holdPending := false, beatDue := false } := by
    refine .hold (fun hok => ⟨?_, fun hx => absurd rfl hx⟩) (fun r hr => by simp [hst] at hr) (fun _ c hc => nomatch hc)
    by_contra habort
    have := hok.2.2.1 (by simpa using habort)
    simp [hst, ChannelState.code] at this
  simpa only [hhold] using h

section
variable {s t : State}

theorem index_of_cmdHold (h : cmdHold s = .ok t) : ∃ n : Fin 4, (s.arg 0).toNat = n := by
  unfold cmdHold at h
  split at h
  · cases h
  · next n hn => exact ⟨n, index?_eq_some.mp hn⟩

theorem cmdHold_row (h : cmdHold s = .ok t) : ∃ n, TxRow n s t := by
  obtain ⟨n, hn⟩ := index_of_cmdHold h
  rw [cmdHold_of_index hn] at h
  split at h
  · cases h
  · next hno =>
    obtain ⟨hhold, hheld⟩ := not_or.mp hno
    split at h
    · next hst =>
      cases h
      exact ⟨n, (TxRow.setChannel (.holdIdle hst (by simpa using hhold))).trans (.setFlag n _ _)⟩
    · next hst =>
      cases h
      exact ⟨n, .setChannel (.holdPending (code_of_not_held (by simpa using hheld) hst))⟩

theorem index_of_cmdResume (h : cmdResume s = .ok t) : ∃ n : Fin 4, (s.arg 0).toNat = n := by
  unfold cmdResume at h
  split at h
  · cases h
  · next n hn => exact ⟨n, index?_eq_some.mp hn⟩

theorem cmdResume_row (h : cmdResume s = .ok t) : ∃ n, TxRow n s t := by
  obtain ⟨n, hn⟩ := index_of_cmdResume h
  rw [cmdResume_of_index hn] at h
  split at h
  · next hheld =>
    cases h
    exact ⟨n, .setChannel (.resumePending hheld)⟩
  · split at h
    · cases h
      exact ⟨n, .setChannel (.holdCancelled _)⟩
    · cases h

theorem cmdAbort_row (h : cmdAbort s = .ok t) : ∃ n, TxRow n s t := by
  have hend : ∀ {n c} (_ : (s.channel n).state.context = some c),
      TxRow n s (frameEnd n .aborted c (s.channel n).watermark s) := fun hctx =>
    frameEnd_row (not_logwait_of_context hctx) (fun hs => hs.1 _ _ hctx) _ _
  unfold cmdAbort at h
  split at h
  · cases h
  · next n _ =>
    simp only at h
    refine ⟨n, ?_⟩
    split at h
    · cases h
    · split at h
      · cases h
      · cases h
      · cases h
      · next c hst =>
        split at h
        · cases h
        · cases h
          exact hend (by rw [hst]; rfl)
      all_goals
        next c hst =>
        split at h
        · split at h
          · cases h
          · cases h
            exact .setChannel (.abortPending (by simp [hst, ChannelState.code]))
        · cases h
          exact hend (by rw [hst]; rfl)

theorem cmdRelease_row (h : cmdRelease s = .ok t) : ∃ n, TxRow n s t := by
  unfold cmdRelease at h
  split at h
  · cases h
  · next n _ =>
    split at h
    · split at h
      · cases h
      · cases h
        exact ⟨n, .setChannel (.released _)⟩
    · cases h

end

/-! ### TXn_CTRL -/

/-- The enable is set, or was not; the watermark is stored in range. -/
theorem OwnStep.control {ch : Channel} {en : Bool} {w : Nat} (hen : en = false → ch.enabled = false) (hw : w ≤ 5) :
    OwnStep ch { ch with enabled := en, watermark := w } where
  ok := fun ⟨hctx, hhold, habort, hres, henabled, _⟩ =>
    ⟨hctx, hhold, habort, hres, fun h => henabled (hen h), hw⟩
  marks _ hm hdue := by
    have hdue' := hm hdue
    unfold channelDue at hdue' ⊢
    cases hst : ch.state with
    | idle =>
      simp only [hst, Bool.and_eq_true, canStart_iff] at hdue' ⊢
      obtain ⟨hb, hon, hq⟩ := hdue'
      refine ⟨hb, ?_, hq⟩
      by_contra h
      exact absurd (hon.symm.trans (hen (by simpa using h))) (by decide)
    | held c => cases c <;> simpa [hst] using hdue'
    | play c | gap c => simpa [hst] using hdue'
    | logwait r => simp [hst] at hdue'
  waits _ := Iff.rfl
  counts := id

/-- A channel without a frame loses its enable, and with it its pending flags. -/
theorem OwnStep.disable {ch : Channel} {x : ChannelState} {w : Nat} (hctx : x.context = none) (hw : w ≤ 5)
    (hx : ∀ r, x = .logwait r ↔ ch.state = .logwait r) :
    OwnStep ch { ch with
      enabled := false, watermark := w, state := x, holdPending := false, abortPending := false
      resumePending := false, beatDue := false } where
  ok _ := ⟨fun h => absurd h (by rw [hctx]; simp), fun h => absurd h Bool.false_ne_true,
    fun h => absurd h Bool.false_ne_true, fun h => absurd h Bool.false_ne_true, fun _ => hctx, hw⟩
  marks _ _ h := absurd h Bool.false_ne_true
  waits := hx
  counts _ c hc := by
    rw [hctx] at hc
    cases hc

theorem writeTxCtrl_row (n : Fin 4) (en : Bool) (w : BitVec 3) (s : State) : TxRow n s (writeTxCtrl n en w s) := by
  have hw : storedWatermark w ≤ 5 := Nat.min_le_left _ _
  unfold writeTxCtrl
  simp only [modChannel_eq]
  split
  · next hclear =>
    rw [clearEnable_eq]
    simp only [setChannel_channel, if_true, setChannel_setChannel]
    have hen : en = false := by simpa using (Bool.and_eq_true_iff.mp hclear).2
    cases hctx : (s.channel n).state.context with
    | some c =>
      simp only
      refine ⟨(TxShape.setChannel n _ s).trans (frameEnd_shape n _ c _ _), ?_⟩
      refine frameEnd_kept_of (s := s) (t := s.setChannel n _) (fun m hm => ?_) rfl rfl (not_logwait_of_context hctx) (fun _ => ?_)
        (fun hs => hs.1 n c hctx) (fun hnil => ?_) _ _
      · rw [setChannel_channel, if_neg hm]
      · rw [setChannel_channel, if_pos rfl]
        exact hw
      · rw [setChannel_channel, if_pos rfl] at hnil
        refine .setChannel ⟨fun hok => absurd hnil (hok.1 (by rw [hctx]; rfl)), fun _ _ h => absurd h Bool.false_ne_true,
          fun _ => Iff.rfl, id⟩
    | none =>
      simp only [hen]
      split
      · next hst =>
        refine .setChannel (.disable rfl hw fun r => ?_)
        rw [hst]
        exact iff_of_false (fun h => nomatch h) (fun h => nomatch h)
      · exact .setChannel (.disable hctx hw fun _ => Iff.rfl)
  · next hkeep =>
    exact .setChannel (.control (fun hen => by simpa [hen] using hkeep) hw)

/-! ### POST_FRAME and FLUSH -/

/-- A descriptor joins a queue. -/
theorem OwnStep.post (ch : Channel) (d : Descriptor) : OwnStep ch { ch with queue := ch.queue ++ [d] } where
  ok := fun ⟨_, hhold, habort, hres, hen, hw⟩ => ⟨fun _ => by simp, hhold, habort, hres, hen, hw⟩
  marks _ hm hdue := by
    have hdue' := hm hdue
    unfold channelDue at hdue' ⊢
    cases hst : ch.state with
    | idle =>
      simp only [hst, Bool.and_eq_true, canStart_iff] at hdue' ⊢
      exact ⟨hdue'.1, hdue'.2.1, by simp⟩
    | held c => cases c <;> simp only [hst, Bool.and_eq_true] at hdue' ⊢ <;> simp [hdue']
    | play c | gap c =>
      simp only [hst, Bool.and_eq_true] at hdue' ⊢
      simp [hdue']
    | logwait r => simp [hst] at hdue'
  waits _ := Iff.rfl
  counts := id

theorem cmdPostFrame_row {s t : State} (h : cmdPostFrame s = .ok t) : ∃ n, TxRow n s t := by
  unfold cmdPostFrame at h
  split at h
  · next n i _ _ =>
    split at h
    · cases h
    · split at h
      · cases h
      · split at h
        · cases h
        · cases h
          refine ⟨n, (TxRow.setChannel (OwnStep.post _ _)).trans ⟨?_, .of_eq rfl rfl rfl⟩⟩
          exact .setQueues n _ _ _ _
  · cases h

/-- A flush leaves the head of a frame in progress, and takes the mark of an IDLE channel. -/
theorem OwnStep.flush (ch : Channel) : OwnStep ch { ch with
    queue := ch.queue.take (keptCount ch), beatDue := ch.beatDue && decide (ch.state ≠ .idle) } where
  ok := by
    intro ⟨hctx, hhold, habort, hres, hen, hw⟩
    refine ⟨fun h => ?_, hhold, habort, hres, hen, hw⟩
    obtain ⟨d, rest, hq⟩ := List.exists_cons_of_ne_nil (hctx h)
    simp [keptCount, show ch.state.context.isSome = true from h, hq]
  marks _ hm hdue := by
    obtain ⟨hb, hst⟩ := Bool.and_eq_true_iff.mp hdue
    have hdue' := hm hb
    unfold channelDue at hdue' ⊢
    cases hstate : ch.state with
    | idle => simp [hstate] at hst
    | play c | gap c =>
      simp only [hstate, Bool.and_eq_true, Bool.not_eq_true', List.isEmpty_eq_false_iff] at hdue' ⊢
      obtain ⟨d, rest, hq⟩ := List.exists_cons_of_ne_nil hdue'.2
      simp [keptCount, hstate, ChannelState.context, hq, hdue'.1]
    | held c =>
      cases c with
      | none => simpa [hstate] using hdue'
      | some c =>
        simp only [hstate, Bool.and_eq_true, Bool.not_eq_true', List.isEmpty_eq_false_iff] at hdue' ⊢
        obtain ⟨d, rest, hq⟩ := List.exists_cons_of_ne_nil hdue'.2
        simp [keptCount, hstate, ChannelState.context, hq, hdue'.1]
    | logwait r => simp [hstate] at hdue'
  waits _ := Iff.rfl
  counts := id

theorem channel_of_channels {s t : State} {n : Fin 4} {ch : Channel} (h : t.channels = s.channels.set n ch)
    (m : Fin 4) : t.channel m = if m = n then ch else s.channel m := by
  rw [State.channel, h]
  exact setChannel_channel n ch s m

/-- The records of a flush enter a log with room for them, where no channel can be waiting. -/
theorem flushChannel_kept {s : State} {n : Fin 4} (hout : (s.channel n).flushSelected ≠ [])
    (hroom : s.log.length + (s.channel n).flushSelected.length ≤ 16) : TxKept s (flushChannel n s) := by
  have hpos := List.length_pos_of_ne_nil hout
  have hown := OwnStep.flush (s.channel n)
  have heq := flushChannel_eq hout
  simp only at heq
  have hlog : (flushChannel n s).log = s.log ++ (s.channel n).flushSelected.map (flushedRecord n) := by
    rw [heq, flushSelected_eq]
    simp only [setWhen_log, setFlag_log]
  have hwait : (flushChannel n s).waitList = s.waitList := by
    rw [heq]
    simp only [setWhen_waitList, setFlag_waitList]
  have hchannel : ∀ m, (flushChannel n s).channel m = if m = n then { s.channel n with
      queue := (s.channel n).queue.take (keptCount (s.channel n))
      beatDue := (s.channel n).beatDue && decide ((s.channel n).state ≠ .idle) } else s.channel m := by
    refine channel_of_channels ?_
    rw [heq]
    simp only [setWhen_channels, setFlag_channels]
  clear heq
  generalize flushChannel n s = t at hlog hwait hchannel
  have hself := (hchannel n).trans (if_pos rfl)
  have hother : ∀ m ≠ n, t.channel m = s.channel m := fun m hm => (hchannel m).trans (if_neg hm)
  have hstate : ∀ m, (t.channel m).state = (s.channel m).state := fun m => by
    by_cases hm : m = n
    · rw [hm, hself]
    · rw [hother m hm]
  refine .of_channel hother (fun hs => hself ▸ hown.ok (hs n)) (fun hs hm => hself ▸ hown.marks (hs n) (hm n))
    (fun ⟨_, hnodup, hmem, hch, hfull⟩ => ?_) (fun ⟨hctx, hwaits, hrec⟩ => ?_)
  · refine ⟨?_, hwait ▸ hnodup, fun m => ?_, fun m x hx => hch m x (hstate m ▸ hx), fun hne => ?_⟩
    · rw [hlog, List.length_append, List.length_map]
      exact hroom
    · rw [hwait, hstate]
      exact hmem m
    · have := hfull (hwait ▸ hne)
      omega
  · rw [hstate, hlog]
    refine ⟨hctx n, hwaits n, fun x hx => ?_⟩
    rcases List.mem_append.mp hx with hx | hx
    · exact hrec x hx
    · obtain ⟨d, -, rfl⟩ := List.mem_map.mp hx
      exact Nat.zero_le _

theorem flushChannel_shape (n : Fin 4) (s : State) : TxShape n s (flushChannel n s) := by
  unfold flushChannel
  simp only [examineFull_eq, examineLow_eq, modChannel_eq, lowerFrames_eq]
  refine .trans (.trans (.trans ?_ (.setFlag n _ _)) (.setWhen n _ _ _)) (.setWhen n _ _ _)
  exact (TxShape.setQueues n s _ s.log s.waitList).trans ((TxShape.setChannel n _ _).trans (.setQueues n _ _ _ _))

theorem cmdFlush_row {s t : State} (h : cmdFlush s = .ok t) : ∃ n, TxRow n s t := by
  unfold cmdFlush at h
  split at h
  · cases h
  · next n _ =>
    split at h
    · cases h
    · next hout =>
      split at h
      · cases h
      · cases h
        have hpos := List.length_pos_of_ne_nil hout
        exact ⟨n, flushChannel_shape n s, flushChannel_kept hout (by omega)⟩

/-! ### The wait list -/

theorem admitWaiting_shape (s : State) : ∃ n, TxShape n s (admitWaiting s) := by
  rcases admitWaiting_cases s with ⟨n, waits, x, -, -, e⟩ | ⟨-, e⟩ <;> rw [e]
  · have hpost : TxShape n s (postRecord x { s with waitList := waits }) :=
      (TxShape.setQueues n s s.slots (s.log ++ [x]) waits).trans (.setFlag n _ _)
    exact ⟨n, (hpost.trans (.setChannel n _ _)).trans (afterPosted_shape n _)⟩
  · exact ⟨0, .refl 0 s⟩

/-- A log from which its oldest record may have gone gives the free entry to the head of the wait list. -/
theorem admitWaiting_kept {s t : State} (hch : t.channels = s.channels) (hwait : t.waitList = s.waitList)
    (hsub : ∀ x ∈ t.log, x ∈ s.log) (hle : t.log.length ≤ s.log.length)
    (hgone : CompletionLogOk s → s.waitList ≠ [] → t.log.length + 1 = s.log.length) : TxKept s (admitWaiting t) := by
  have hsame : ∀ m, t.channel m = s.channel m := fun m => by simp only [State.channel, hch]
  rcases admitWaiting_cases t with ⟨n, waits, x, hw, hst, -⟩ | ⟨hnone, e⟩
  · have heq := admitWaiting_of_waiting hw hst
    have hlog : (admitWaiting t).log = t.log ++ [x] := by
      rw [heq]
      simp only [setWhen_log, setFlag_log]
    have hwaits : (admitWaiting t).waitList = waits := by
      rw [heq]
      simp only [setWhen_waitList, setFlag_waitList]
    have hchannel : ∀ m, (admitWaiting t).channel m
        = if m = n then postedChannel { t.channel n with beatDue := false } else t.channel m := by
      refine channel_of_channels ?_
      rw [heq]
      simp only [setWhen_channels, setFlag_channels, postedChannel, Bool.false_and, Bool.and_false]
    generalize admitWaiting t = u at hlog hwaits hchannel
    have hself := (hchannel n).trans (if_pos rfl)
    have hother : ∀ m ≠ n, u.channel m = s.channel m := fun m hm => ((hchannel m).trans (if_neg hm)).trans (hsame m)
    rw [hsame] at hst hself
    obtain ⟨hctx, hnowait⟩ := postedChannel_noContext { s.channel n with beatDue := false }
    have hwaiting : s.waitList = n :: waits := hwait ▸ hw
    refine .of_channel hother (fun hs => ?_) (fun _ _ => hself ▸ postedChannel_marks) (fun hs => ?_) (fun hs => ?_)
    · have ⟨_, _, habort, hres, _, hw5⟩ := hs n
      rw [hst] at habort hres
      rw [hself]
      refine postedChannel_ok hw5 ?_ ?_
      · by_contra h
        exact absurd (habort (by simpa using h)) (by simp [ChannelState.code])
      · by_contra h
        exact absurd (hres (by simpa using h)) (by simp [ChannelState.code])
    · refine completionLogOk_of_admission hother (hself ▸ hnowait) ?_ hwaiting hwaits hs
      rw [hlog, List.length_append]
      exact hgone hs (hwaiting ▸ List.cons_ne_nil _ _)
    · rw [hself, hlog, hctx]
      refine ⟨fun c hc => (nomatch hc), fun y hy => absurd hy (hnowait y), fun y hy => ?_⟩
      rcases List.mem_append.mp hy with hy | hy
      · exact hs.2.2 y (hsub y hy)
      · exact List.mem_singleton.mp hy ▸ hs.2.1 n x hst
  · rw [e]
    refine ⟨fun hs n => hsame n ▸ hs n, fun _ hm n => hsame n ▸ hm n, fun hs => ?_,
      fun ⟨hctx, hwaits, hrec⟩ => ⟨fun n => hsame n ▸ hctx n, fun n => hsame n ▸ hwaits n, fun x hx => hrec x (hsub x hx)⟩⟩
    have ⟨hle16, hnodup, hmem, hown, hfull⟩ := hs
    have hempty : t.waitList = [] := by
      rcases hnone with h | ⟨n, rest, h, hnot⟩
      · exact h
      · obtain ⟨r, hr⟩ := (hmem n).mp (by rw [← hwait, h]; exact List.mem_cons_self)
        exact absurd ((hsame n).symm ▸ hr) (hnot r)
    exact ⟨hle.trans hle16, hwait ▸ hnodup, fun n => by rw [hwait, hsame]; exact hmem n,
      fun n r hr => hown n r (hsame n ▸ hr), fun h => absurd hempty h⟩

theorem recordAdmission_row (s : State) : ∃ n, TxRow n s (recordAdmission s) := by
  unfold recordAdmission
  split
  · next hroom =>
    obtain ⟨n, hshape⟩ := admitWaiting_shape s
    refine ⟨n, hshape, admitWaiting_kept rfl rfl (fun _ => id) le_rfl fun hs hne => ?_⟩
    have := hs.2.2.2.2 hne
    omega
  · exact ⟨0, .refl 0 s⟩

/-! ### All channels at once -/

theorem OwnStep.markAbsent {ch : Channel} {c : Context} (hst : ch.state = .play c) :
    OwnStep ch { ch with state := .play { c with carrierAbsent := true } } where
  ok := ok_of_same_code (by rw [hst]; rfl) ch.beatDue
  marks _ hm h := by
    have hdue := hm h
    unfold channelDue at hdue ⊢
    rw [hst] at hdue
    exact hdue
  waits r := by
    rw [hst]
    exact iff_of_false (fun h => nomatch h) (fun h => nomatch h)
  counts hs c' hc' := by
    rw [hst] at hs
    cases hc'
    exact hs c rfl

theorem markAbsent_row (n : Fin 4) (s : State) : TxRow n s (markAbsent n s) := by
  rcases markAbsent_cases n s with ⟨c, hst, e⟩ | e <;> rw [e]
  · exact .setChannel (.markAbsent hst)
  · exact .refl n s

theorem beat_code (ch : Channel) : ch.beat.state.code = ch.state.code := by
  unfold Channel.beat
  split <;> next hst => simp only [hst, ChannelState.code]

/-- A beat event moves beats remaining and the mark alone. -/
theorem beat_eq (ch : Channel) : ch.beat = { ch with state := ch.beat.state, beatDue := ch.beat.beatDue } := by
  unfold Channel.beat
  split <;> rfl

/-- A beat event lowers beats remaining, and marks a channel exactly where that gives it something to do. -/
theorem OwnStep.beat (ch : Channel) : OwnStep ch ch.beat where
  ok h := by
    rw [beat_eq]
    exact ok_of_same_code (beat_code ch) _ h
  marks hok _ hdue := by
    have hhead : ch.state.context.isSome = true → ch.queue.isEmpty = false := fun h => by simpa using hok.1 h
    unfold Channel.beat channelDue at *
    cases hst : ch.state with
    | held c => cases c <;> simp_all [ChannelState.context]
    | play c | gap c =>
      simp only [hst, decide_eq_true_eq] at hdue hhead ⊢
      simp [hhead rfl, hdue]
    | idle =>
      simp only [hst] at hdue ⊢
      simpa [Channel.canStart] using hdue
    | logwait r => simp [hst] at hdue
  waits r := by
    unfold Channel.beat
    cases hst : ch.state <;> simp
  counts hs c hc := by
    unfold Channel.beat at hc
    cases hst : ch.state with
    | play c' | gap c' =>
      simp only [hst, ChannelState.context, Option.some.injEq] at hc hs
      exact hc ▸ hs c' rfl
    | _ =>
      simp only [hst] at hc hs
      exact hs c hc

/-- No channel has a beat event left to take. -/
theorem dropBeat_kept (s : State) : TxKept s (dropBeat s) :=
  .of_own (fun n => by rw [dropBeat_channel]; exact .beatTaken _) rfl rfl

/-- An engine reset leaves every channel IDLE with an empty queue, and the log and the wait list empty. -/
theorem engineReset_kept (s : State) : TxKept s (engineReset s) := by
  have hchannel : ∀ n, (engineReset s).channel n = (s.channel n).engineReset := fun n => by
    simp [engineReset, State.channel]
  refine ⟨fun hs n => ?_, fun _ _ n h => ?_, fun _ => ⟨Nat.zero_le _, List.nodup_nil, fun n => ?_, fun n r hr => ?_,
    fun h => absurd rfl h⟩, fun _ => ⟨fun n c hc => ?_, fun n r hr => ?_, fun _ hx => nomatch hx⟩⟩
  · rw [hchannel]
    exact ⟨fun h => (nomatch h), fun h => absurd h Bool.false_ne_true, fun h => absurd h Bool.false_ne_true,
      fun h => absurd h Bool.false_ne_true, fun _ => rfl, (hs n).2.2.2.2.2⟩
  · rw [hchannel] at h
    exact absurd h Bool.false_ne_true
  · rw [hchannel]
    exact iff_of_false (fun h => nomatch h) (fun ⟨r, hr⟩ => nomatch hr)
  · rw [hchannel] at hr
    exact nomatch hr
  · rw [hchannel] at hc
    exact nomatch hc
  · rw [hchannel] at hr
    exact nomatch hr

end Sys2Proof.Proofs
end

section
/-! SUPPORT. What the rows of capture units, decoders and capture logs keep of the promises. -/

namespace Sys2Proof.Proofs

open Sys2Proof Sys2Proof.Machine Sys2Proof.Machine.Laws Sys2Proof.Stated

/-! ### Capture logs (R159 to R161) -/

/-- A log after a record was offered to it (R160, R161). -/
def offered (l : List CaptureRecord) (r : CaptureRecord) : List CaptureRecord :=
  if l.length + 2 ≤ 48 then l ++ [r]
  else if l.length + 1 = 48 ∧ youngestIsOverrun l = false then l ++ [.overrun 1]
  else changeYoungest .raiseLost l

theorem separated_append (l : List CaptureRecord) (r : CaptureRecord) :
    separated (l ++ [r]) = (separated l && !(youngestIsOverrun l && r.isOverrun)) := by
  induction l with
  | nil => rfl
  | cons a l ih =>
    cases l with
    | nil => simp [separated, youngestIsOverrun]
    | cons b l =>
      have hyoung : youngestIsOverrun (a :: b :: l) = youngestIsOverrun (b :: l) := by
        simp [youngestIsOverrun, List.getLast?_cons_cons]
      rw [hyoung]
      simp only [List.cons_append, separated] at ih ⊢
      rw [ih, Bool.and_assoc]

theorem raiseLost_isOverrun (r : CaptureRecord) : r.raiseLost.isOverrun = r.isOverrun := by
  cases r <;> rfl

theorem captureLogOk_nil : CaptureLogOk [] := by
  simp [CaptureLogOk, separated]

/-- A data record offered to a log leaves a log as R159 to R161 say. -/
theorem captureLogOk_offered {l : List CaptureRecord} {r : CaptureRecord} (h : CaptureLogOk l)
    (hr : r.isOverrun = false) : CaptureLogOk (offered l r) := by
  obtain ⟨hle, hsep, hfull, hcount, hlost⟩ := h
  unfold offered
  split
  · next hroom =>
    refine ⟨?_, ?_, fun h => ?_, ?_, fun n hn => ?_⟩
    · rw [List.length_append, List.length_singleton]
      omega
    · rw [separated_append, hsep, hr, Bool.and_false]
      rfl
    · rw [List.length_append, List.length_singleton] at h
      omega
    · have := List.countP_le_length (p := fun r : CaptureRecord => !r.isOverrun) (l := l ++ [r])
      rw [List.length_append, List.length_singleton] at this
      omega
    · rcases List.mem_append.mp hn with hn | hn
      · exact hlost n hn
      · rw [← List.mem_singleton.mp hn] at hr
        cases hr
  · split
    · next hlast =>
      refine ⟨?_, ?_, fun _ => youngestIsOverrun_append l _, ?_, fun n hn => ?_⟩
      · rw [List.length_append, List.length_singleton]
        exact hlast.1.le
      · rw [separated_append, hsep, hlast.2]
        rfl
      · rw [List.countP_append]
        exact hcount
      · rcases List.mem_append.mp hn with hn | hn
        · exact hlost n hn
        · cases List.mem_singleton.mp hn
          exact ⟨le_rfl, by decide⟩
    · next hroom hlast =>
      have hyoung : youngestIsOverrun l = true := by
        by_contra hno
        have hne : l.length ≠ 48 := fun h => hno (hfull h)
        exact hlast ⟨by omega, by simpa using hno⟩
      rcases List.eq_nil_or_concat l with rfl | ⟨l', x, rfl⟩
      · cases hyoung
      · simp only [List.concat_eq_append] at *
        rw [youngestIsOverrun_append] at hyoung
        rw [changeYoungest_append]
        have hx := raiseLost_isOverrun x
        refine ⟨?_, ?_, fun _ => ?_, ?_, fun n hn => ?_⟩
        · rw [List.length_append, List.length_singleton] at hle ⊢
          exact hle
        · rw [separated_append, hx, ← separated_append]
          exact hsep
        · rw [youngestIsOverrun_append, hx]
          exact hyoung
        · rw [List.countP_append, List.countP_singleton] at hcount ⊢
          rw [hx]
          exact hcount
        · rcases List.mem_append.mp hn with hn | hn
          · exact hlost n (List.mem_append_left _ hn)
          · have hn' := List.mem_singleton.mp hn
            cases x with
            | overrun k =>
              cases hn'
              exact ⟨Nat.le_min.mpr ⟨by decide, Nat.le_add_left 1 k⟩, Nat.min_le_left _ _⟩
            | _ => cases hn'

theorem captureLogOk_tail {r : CaptureRecord} {l : List CaptureRecord} (h : CaptureLogOk (r :: l)) : CaptureLogOk l := by
  obtain ⟨hle, hsep, -, hcount, hlost⟩ := h
  rw [List.length_cons] at hle
  refine ⟨by omega, ?_, fun h => by omega, (List.sublist_cons_self r l).countP_le.trans hcount,
    fun n hn => hlost n (List.mem_cons_of_mem r hn)⟩
  cases l with
  | nil => rfl
  | cons b l => exact (Bool.and_eq_true_iff.mp hsep).2

/-- Records in range stay so when another is offered. -/
theorem records_offered {l : List CaptureRecord} {r : CaptureRecord} (h : ∀ x ∈ l, x.Ok) (hr : r.Ok) :
    ∀ x ∈ offered l r, x.Ok := by
  unfold offered
  split
  · simpa [or_imp, forall_and] using ⟨h, hr⟩
  · split
    · simpa [or_imp, forall_and, CaptureRecord.Ok] using h
    · rcases List.eq_nil_or_concat l with rfl | ⟨l', y, rfl⟩
      · exact h
      · simp only [List.concat_eq_append] at *
        rw [changeYoungest_append]
        intro x hx
        rcases List.mem_append.mp hx with hx | hx
        · exact h x (List.mem_append_left _ hx)
        · rw [List.mem_singleton.mp hx]
          have hy := h y (by simp)
          cases y with
          | overrun k => exact trivial
          | _ => exact hy

/-- Several data records offered one at a time. -/
theorem offeredAll {out l : List CaptureRecord} (hdata : ∀ r ∈ out, r.isOverrun = false) :
    (CaptureLogOk l → CaptureLogOk (out.foldl offered l))
      ∧ ((∀ r ∈ out, r.Ok) → (∀ x ∈ l, x.Ok) → ∀ x ∈ out.foldl offered l, x.Ok) := by
  induction out generalizing l with
  | nil => exact ⟨id, fun _ => id⟩
  | cons r out ih =>
    obtain ⟨hlog, hrec⟩ := ih (l := offered l r) fun x hx => hdata x (List.mem_cons_of_mem r hx)
    refine ⟨fun h => hlog (captureLogOk_offered h (hdata r List.mem_cons_self)), fun hok h => ?_⟩
    exact hrec (fun x hx => hok x (List.mem_cons_of_mem r hx)) (records_offered h (hok r List.mem_cons_self))

/-! ### Which parts a unit's row touches -/

/-- A change of unit u and of flags that become pending. -/
def RxShape (u : Fin 2) (s t : State) : Prop :=
  ∃ c pend, t = { s.setUnit u c with pend := pend }
    ∧ ((∀ r : Fin 2, s.pend[r] &&& ~~~(evtMask r) = 0) → ∀ r : Fin 2, pend[r] &&& ~~~(evtMask r) = 0)

theorem RxShape.setUnit (u : Fin 2) (c : CaptureUnit) (s : State) : RxShape u s (s.setUnit u c) :=
  ⟨c, s.pend, rfl, id⟩

theorem RxShape.refl (u : Fin 2) (s : State) : RxShape u s s :=
  ⟨s.captureUnit u, s.pend, (setUnit_self u s).symm, id⟩

theorem RxShape.trans {u : Fin 2} {s t v : State} (h : RxShape u s t) (k : RxShape u t v) : RxShape u s v := by
  obtain ⟨_, _, rfl, hp⟩ := h
  obtain ⟨c, pend, rfl, kp⟩ := k
  refine ⟨c, pend, ?_, fun hs => kp (hp hs)⟩
  simp [State.setUnit]

theorem RxShape.setFlag (u : Fin 2) (f : Flag) (s : State) : RxShape u s (s.setFlag f) :=
  ⟨s.captureUnit u, (s.setFlag f).pend, congrArg (fun t : State => { t with pend := (s.setFlag f).pend })
    (setUnit_self u s).symm, pendOk_setFlag f⟩

theorem RxShape.captureUnit_of_ne {u v : Fin 2} {s t : State} (h : RxShape u s t) (hv : v ≠ u) :
    t.captureUnit v = s.captureUnit v := by
  obtain ⟨c, pend, rfl, -⟩ := h
  exact (setUnit_captureUnit u c s v).trans (if_neg hv)

theorem RxShape.channels {u : Fin 2} {s t : State} (h : RxShape u s t) : t.channels = s.channels := by
  obtain ⟨c, pend, rfl, -⟩ := h
  rfl

theorem RxShape.symbols {u : Fin 2} {s t : State} (h : RxShape u s t) : t.symbols = s.symbols := by
  obtain ⟨c, pend, rfl, -⟩ := h
  rfl

section
variable (u : Fin 2) (s : State)

theorem enterCaptureLog_shape (r : CaptureRecord) : RxShape u s (enterCaptureLog u r s) := by
  rcases enterCaptureLog_cases u r s with e | e <;> rw [e]
  · exact (RxShape.setUnit u _ s).trans (.setFlag u _ _)
  · exact .setUnit u _ s

theorem enterCaptureLog_unit (r : CaptureRecord) : (enterCaptureLog u r s).captureUnit u
    = { s.captureUnit u with log := (s.captureUnit u).log ++ [r] } := by
  rcases enterCaptureLog_cases u r s with e | e <;> simp [e]

theorem offerRecord_shape (r : CaptureRecord) : RxShape u s (offerRecord u r s) := by
  rcases offerRecord_cases u r s with ⟨-, e⟩ | ⟨-, -, e⟩ | ⟨-, -, e⟩ <;> rw [e]
  · exact enterCaptureLog_shape u s r
  · exact (enterCaptureLog_shape u s _).trans (.setFlag u _ _)
  · exact .setUnit u _ s

theorem offerRecord_unit (r : CaptureRecord) : (offerRecord u r s).captureUnit u
    = { s.captureUnit u with log := offered (s.captureUnit u).log r } := by
  unfold offered
  rcases offerRecord_cases u r s with ⟨h, e⟩ | ⟨h, hy, e⟩ | ⟨h, hy, e⟩ <;> rw [e]
  · rw [if_pos h, enterCaptureLog_unit]
  · rw [if_neg (by omega), if_pos ⟨h, hy⟩, setFlag_captureUnit, enterCaptureLog_unit]
  · rw [if_neg (by omega), if_neg fun ⟨h48, hno⟩ => absurd (hno.symm.trans (hy (by omega))) (by decide)]
    simp

theorem offerAll_shape (out : List CaptureRecord) : RxShape u s (offerAll u out s) := by
  induction out generalizing s with
  | nil => exact .refl u s
  | cons r out ih => exact (offerRecord_shape u s r).trans (ih _)

theorem offerAll_unit (out : List CaptureRecord) : (offerAll u out s).captureUnit u
    = { s.captureUnit u with log := out.foldl offered (s.captureUnit u).log } := by
  induction out generalizing s with
  | nil => rfl
  | cons r out ih =>
    rw [offerAll, ih, offerRecord_unit]
    rfl

theorem keepWork_shape (w : Work) : RxShape u s (keepWork u w s) :=
  (RxShape.setUnit u _ s).trans (offerAll_shape u _ _)

theorem keepWork_unit (w : Work) : (keepWork u w s).captureUnit u = { s.captureUnit u with
    pendingList := itemPhases w.list, held := w.held, log := w.out.foldl offered (s.captureUnit u).log } := by
  rw [keepWork, offerAll_unit]
  simp

end

/-! ### What a decoder's work holds and writes -/

/-- A measured phase's length is in range (R152). -/
def PhaseOk (p : Phase) : Prop := 1 ≤ p.length ∧ p.length ≤ 65535

/-- A record that the decoder forms: a symbol, or a phase that meets Q. -/
def Formed (Q : Phase → Prop) (r : CaptureRecord) : Prop :=
  (∃ m code, r = .symbol m code) ∨ ∃ p, Q p ∧ r = noMatchRecord p

theorem Formed.isOverrun {Q : Phase → Prop} {r : CaptureRecord} (h : Formed Q r) : r.isOverrun = false := by
  rcases h with ⟨m, code, rfl⟩ | ⟨p, -, rfl⟩ <;> rfl

theorem Formed.ok {r : CaptureRecord} (h : Formed PhaseOk r) : r.Ok := by
  rcases h with ⟨m, code, rfl⟩ | ⟨p, hp, rfl⟩
  · exact trivial
  · exact hp

/-- Every phase that the work holds meets Q, and its records are formed of such phases. -/
structure WorkIn (Q : Phase → Prop) (w : Work) : Prop where
  list : ∀ x ∈ w.list, Q x.phase
  out : ∀ r ∈ w.out, Formed Q r

section
variable {Q : Phase → Prop} {s : State} {set : List (Fin 64)} {w : Work}

theorem WorkIn.write (h : WorkIn Q w) {l : List Item} (hl : ∀ x ∈ l, Q x.phase) (held : Option HeldMatch)
    {r : CaptureRecord} (hr : Formed Q r) : WorkIn Q { list := l, held := held, out := w.out ++ [r] } := by
  refine ⟨hl, fun x hx => ?_⟩
  rcases List.mem_append.mp hx with hx | hx
  · exact h.out x hx
  · exact List.mem_singleton.mp hx ▸ hr

theorem WorkIn.emptied (h : WorkIn Q w) : WorkIn Q { w with list := [] } := ⟨fun _ hx => absurd hx List.not_mem_nil, h.out⟩

theorem fallBack_in (h : WorkIn Q w) : WorkIn Q (fallBack s w) := by
  unfold fallBack
  split
  · exact h.write (fun x hx => h.list x (List.mem_of_mem_drop hx)) none (.inl ⟨_, _, rfl⟩)
  · split
    · exact h
    · next x rest hlist =>
      have hmem : ∀ y ∈ x :: rest, Q y.phase := hlist ▸ h.list
      exact h.write (fun y hy => hmem y (List.mem_cons_of_mem x hy)) none (.inr ⟨_, hmem x List.mem_cons_self, rfl⟩)

theorem takeItem_in (h : WorkIn Q w) {x : Item} (hx : Q x.phase) :
    WorkIn Q (takeItem s set x w).1 ∧ ∀ y ∈ (takeItem s set x w).2, Q y.phase := by
  have hlist : ∀ y ∈ w.list ++ [x], Q y.phase := by
    intro y hy
    rcases List.mem_append.mp hy with hy | hy
    · exact h.list y hy
    · exact List.mem_singleton.mp hy ▸ hx
  have hback : WorkIn Q (fallBack s { w with list := w.list ++ [x] }) := fallBack_in ⟨hlist, h.out⟩
  rcases takeItem_cases s set x w with ⟨m, -, -, e⟩ | ⟨m, -, -, e⟩ | ⟨-, -, e⟩ | ⟨-, -, e⟩ <;> rw [e]
  · exact ⟨h.write (fun _ hy => absurd hy List.not_mem_nil) none (.inl ⟨_, _, rfl⟩), fun _ hy => absurd hy List.not_mem_nil⟩
  · exact ⟨⟨hlist, h.out⟩, fun _ hy => absurd hy List.not_mem_nil⟩
  · exact ⟨⟨hlist, h.out⟩, fun _ hy => absurd hy List.not_mem_nil⟩
  · exact ⟨hback.emptied, hback.list⟩

theorem takeAll_in {items : List Item} (k : Nat) (h : WorkIn Q w) (hitems : ∀ x ∈ items, Q x.phase) :
    WorkIn Q (takeAll s set k items w) := by
  induction k generalizing items w with
  | zero => exact h
  | succ k ih =>
    cases items with
    | nil => exact h
    | cons x rest =>
      have hrest : ∀ y ∈ rest, Q y.phase := fun y hy => hitems y (List.mem_cons_of_mem x hy)
      obtain ⟨htaken, hreplay⟩ := takeItem_in (s := s) (set := set) h (hitems x List.mem_cons_self)
      rw [takeAll]
      split
      · exact ih h hrest
      · refine ih htaken fun y hy => ?_
        rcases List.mem_append.mp hy with hy | hy
        · exact hreplay y hy
        · exact hrest y hy

theorem flushStep_in (h : WorkIn Q w) : WorkIn Q (flushStep s set w) := by
  unfold flushStep
  split
  · exact h
  · split
    · exact ⟨fun _ hx => absurd hx List.not_mem_nil, h.out⟩
    · split
      · exact h.write (fun _ hy => absurd hy List.not_mem_nil) none (.inl ⟨_, _, rfl⟩)
      · exact takeAll_in _ (fallBack_in h).emptied (fallBack_in h).list

theorem flushAll_in (k : Nat) (h : WorkIn Q w) : WorkIn Q (flushAll s set k w) := by
  induction k generalizing w with
  | zero => exact h
  | succ k ih =>
    rw [flushAll]
    split
    · exact h
    · exact ih (flushStep_in h)

/-- With symbols of at most 8 phases, the list that a decoder goes on with holds at most 7 (R147). -/
def WorkShort (w : Work) : Prop := w.list.length ≤ 8 ∧ ∀ h, w.held = some h → h.length ≤ 7

theorem takeItem_short (hsym : ∀ i, (s.symbol i).lengths.length ≤ 8) {x : Item} (h : WorkShort w) :
    WorkShort (takeItem s set x w).1 := by
  have hlonger : hasLonger s set (w.list ++ [x]) = true → (w.list ++ [x]).length ≤ 7 := fun hl => by
    obtain ⟨m, -, -, hlt⟩ := hasLonger_spec hl
    have := hsym m
    omega
  rcases takeItem_cases s set x w with ⟨m, -, -, e⟩ | ⟨m, -, hl, e⟩ | ⟨-, hl, e⟩ | ⟨-, -, e⟩ <;> rw [e]
  · exact ⟨Nat.zero_le _, fun _ h => nomatch h⟩
  · refine ⟨(hlonger hl).trans (by decide), fun held hheld => ?_⟩
    cases hheld
    exact hlonger hl
  · exact ⟨(hlonger hl).trans (by decide), h.2⟩
  · refine ⟨Nat.zero_le _, fun held hheld => ?_⟩
    have hnone : (fallBack s { w with list := w.list ++ [x] }).held = none := by
      unfold fallBack
      split
      · rfl
      · split
        · next hnone _ _ => exact hnone
        · rfl
    rw [hnone] at hheld
    cases hheld

theorem feed_short (hsym : ∀ i, (s.symbol i).lengths.length ≤ 8) (hw : WorkSound w) (h : WorkShort w)
    (items : List Item) : WorkSound (feed s set items w) ∧ WorkShort (feed s set items w) :=
  feed_induct (P := fun _ w => WorkShort w) (fun _ _ _ _ h _ => h) (fun _ _ _ _ h => takeItem_short hsym h) hw h

end

/-! ### The decoder of a unit -/

section
variable {c : CaptureUnit}

theorem work_sound (h : DecoderOk c) : WorkSound c.work := by
  refine ⟨fun x hx => ?_, fun held hheld => ?_⟩
  · obtain ⟨p, -, rfl⟩ := List.mem_map.mp hx
    rfl
  · obtain ⟨h1, -, hle⟩ := h.2.2 held hheld
    exact ⟨h1, by simpa [CaptureUnit.work] using hle⟩

theorem work_short (h : DecoderOk c) : WorkShort c.work :=
  ⟨by simpa [CaptureUnit.work] using h.1, fun held hheld => (h.2.2 held hheld).2.1⟩

theorem work_in {Q : Phase → Prop} (h : ∀ p ∈ c.pendingList, Q p) : WorkIn Q c.work := by
  refine ⟨fun x hx => ?_, fun r hr => nomatch hr⟩
  obtain ⟨p, hp, rfl⟩ := List.mem_map.mp hx
  exact h p hp

end

end Sys2Proof.Proofs
end

section
/-! SUPPORT. What the events and commands of capture units keep of the promises about logs, decoders and units. -/

namespace Sys2Proof.Proofs

open Sys2Proof Sys2Proof.Machine Sys2Proof.Machine.Laws Sys2Proof.Stated

/-! ### What a unit keeps -/

/-- What a unit must keep through a row. -/
structure UnitStep (s : State) (c c' : CaptureUnit) : Prop where
  log : CaptureLogOk c.log → CaptureLogOk c'.log
  decoder : (∀ i, (s.symbol i).lengths.length ≤ 8) → DecoderOk c → DecoderOk c'
  ok : c.Ok → c'.Ok

theorem UnitStep.refl (s : State) (c : CaptureUnit) : UnitStep s c c := ⟨id, fun _ => id, id⟩

/-- A row touches unit u and pending flags alone, and keeps the unit's promises. -/
structure RxRow (u : Fin 2) (s t : State) : Prop where
  shape : RxShape u s t
  unit : UnitStep s (s.captureUnit u) (t.captureUnit u)

theorem RxRow.refl (u : Fin 2) (s : State) : RxRow u s s := ⟨.refl u s, .refl s _⟩

theorem RxRow.setUnit {u : Fin 2} {s : State} {c : CaptureUnit} (h : UnitStep s (s.captureUnit u) c) :
    RxRow u s (s.setUnit u c) := by
  refine ⟨.setUnit u c s, ?_⟩
  rw [setUnit_captureUnit, if_pos rfl]
  exact h

/-- Without pending phases there is no held match. -/
theorem held_none_of_decoderOk {c : CaptureUnit} (h : DecoderOk c) (hnil : c.pendingList = []) : c.held = none := by
  cases hheld : c.held with
  | none => rfl
  | some m =>
    obtain ⟨h1, -, h2⟩ := h.2.2 m hheld
    rw [hnil, List.length_nil] at h2
    omega

theorem decoderOk_of_empty {c : CaptureUnit} (hnil : c.pendingList = []) (hheld : c.held = none) : DecoderOk c := by
  refine ⟨by rw [hnil]; exact Nat.zero_le _, fun h => absurd hnil h, fun m hm => ?_⟩
  rw [hheld] at hm
  cases hm

/-- A unit changes its run state alone: one with pending phases stays IN_FRAME. -/
theorem UnitStep.setState {s : State} {c : CaptureUnit} {x : CaptureState} (hcode : c.state.code = 2 → x.code = 2)
    (hok : c.Ok → x.Ok c.config) : UnitStep s c { c with state := x } where
  log := id
  decoder _ h := ⟨h.1, fun hne => ⟨hcode (h.2.1 hne).1, (h.2.1 hne).2⟩, h.2.2⟩
  ok h := ⟨h.1, hok h, h.2.2⟩

/-! ### A closed phase and a flush -/

/-- What a unit's pending list, held match and log come to when phases reach its decoder or its log; `good` says that the
phases that reach it are in range. -/
structure DecodeStep (s : State) (good : Prop) (c : CaptureUnit) (pl : List Phase) (held : Option HeldMatch)
    (l : List CaptureRecord) : Prop where
  log : CaptureLogOk c.log → CaptureLogOk l
  short : (∀ i, (s.symbol i).lengths.length ≤ 8) → DecoderOk c →
    pl.length ≤ 8 ∧ ∀ h, held = some h → 1 ≤ h.length ∧ h.length ≤ 7 ∧ h.length ≤ pl.length
  mode : pl ≠ [] → c.pendingList ≠ [] ∨ c.config.mode = .decode
  ranges : good → (∀ p ∈ c.pendingList, PhaseOk p) → (∀ r ∈ c.log, r.Ok) → (∀ p ∈ pl, PhaseOk p) ∧ ∀ r ∈ l, r.Ok

/-- A data record is offered, with the decoder as it is. -/
theorem DecodeStep.offer {s : State} {c : CaptureUnit} {r : CaptureRecord} {good : Prop} (hr : r.isOverrun = false)
    (hok : good → r.Ok) : DecodeStep s good c c.pendingList c.held (offered c.log r) :=
  ⟨fun h => captureLogOk_offered h hr, fun _ h => ⟨h.1, h.2.2⟩, .inl,
    fun hgood hp h => ⟨hp, records_offered h (hok hgood)⟩⟩

/-- A decoder's work is kept, with its records offered. -/
theorem DecodeStep.ofWork {s : State} {good : Prop} {c : CaptureUnit} {w : Work} (hmode : c.config.mode = .decode)
    (hsound : (∀ i, (s.symbol i).lengths.length ≤ 8) → DecoderOk c → WorkSound w ∧ WorkShort w)
    (hdata : WorkIn (fun _ => True) w) (hin : good → (∀ p ∈ c.pendingList, PhaseOk p) → WorkIn PhaseOk w) :
    DecodeStep s good c (itemPhases w.list) w.held (w.out.foldl offered c.log) := by
  have hoffer := offeredAll (l := c.log) fun r hr => (hdata.out r hr).isOverrun
  refine ⟨hoffer.1, fun hsym hc => ?_, fun _ => .inr hmode, fun hgood hp h => ?_⟩
  · obtain ⟨⟨-, hheld⟩, hlen, h7⟩ := hsound hsym hc
    rw [itemPhases, List.length_map]
    exact ⟨hlen, fun h hh => ⟨(hheld h hh).1, h7 h hh, (hheld h hh).2⟩⟩
  · have hw := hin hgood hp
    refine ⟨fun p hp => ?_, hoffer.2 (fun r hr => (hw.out r hr).ok) h⟩
    obtain ⟨x, hx, rfl⟩ := List.mem_map.mp hp
    exact hw.list x hx

section
variable (u : Fin 2) (s : State)

theorem closePhase_shape (p : Phase) : RxShape u s (closePhase u p s) := by
  unfold closePhase
  split
  · exact offerRecord_shape u s _
  · exact keepWork_shape u s _

/-- A closed phase goes to the log, or to the decoder. -/
theorem closePhase_unit (p : Phase) : ∃ pl held l, (closePhase u p s).captureUnit u
    = { s.captureUnit u with pendingList := pl, held := held, log := l }
      ∧ DecodeStep s (PhaseOk p) (s.captureUnit u) pl held l := by
  unfold closePhase
  cases hmode : (s.captureUnit u).config.mode with
  | raw => exact ⟨_, _, _, offerRecord_unit u s _, .offer rfl id⟩
  | decode =>
    refine ⟨_, _, _, keepWork_unit u s _, .ofWork hmode (fun hsym hc => ?_) ?_ fun hp hpl => ?_⟩
    · exact feed_short hsym (work_sound hc) (work_short hc) _
    · exact takeAll_in _ (work_in fun _ _ => trivial) fun _ _ => trivial
    · exact takeAll_in _ (work_in hpl) fun x hx => List.mem_singleton.mp hx ▸ hp

theorem flushUnit_shape (o : Option Phase) : RxShape u s (flushUnit u o s) := by
  unfold flushUnit
  split
  · exact .refl u s
  · exact keepWork_shape u s _

/-- What a flush leaves of a unit: no pending phase. -/
theorem flushUnit_unit (o : Option Phase) : ∃ pl held l, (flushUnit u o s).captureUnit u
    = { s.captureUnit u with pendingList := pl, held := held, log := l }
      ∧ DecodeStep s (∀ p, o = some p → PhaseOk p) (s.captureUnit u) pl held l
      ∧ (DecoderOk (s.captureUnit u) → pl = [] ∧ held = none) := by
  cases hmode : (s.captureUnit u).config.mode with
  | raw =>
    have hflush : flushUnit u o s = s := by simp only [flushUnit, hmode]
    refine ⟨_, _, _, by rw [hflush], ⟨id, fun _ h => ⟨h.1, h.2.2⟩, .inl, fun _ hp h => ⟨hp, h⟩⟩, fun h => ?_⟩
    have hnil : (s.captureUnit u).pendingList = [] := by
      by_contra hne
      exact absurd (hmode.symm.trans (h.2.1 hne).2) (by decide)
    exact ⟨hnil, held_none_of_decoderOk h hnil⟩
  | decode =>
    have hflush : flushUnit u o s = keepWork u (flushed s (s.captureUnit u).decodeSet
        (feed s (s.captureUnit u).decodeSet (o.toList.map (fun p => { phase := p, isOpen := true }))
          (s.captureUnit u).work)) s := by
      rw [keepWork_eq_decoded]
      simp only [flushUnit, hmode]
      exact decodeFlush_eq_decoded u o s
    have hin : ∀ Q : Phase → Prop, (∀ p ∈ (s.captureUnit u).pendingList, Q p) → (∀ p, o = some p → Q p) →
        WorkIn Q (flushed s (s.captureUnit u).decodeSet (feed s (s.captureUnit u).decodeSet
          (o.toList.map (fun p => { phase := p, isOpen := true })) (s.captureUnit u).work)) := by
      intro Q hpl ho
      refine flushAll_in _ (takeAll_in _ (work_in hpl) fun x hx => ?_)
      obtain ⟨p, hp, rfl⟩ := List.mem_map.mp hx
      exact ho p (Option.mem_toList.mp hp)
    have hempty : DecoderOk (s.captureUnit u) → (flushed s (s.captureUnit u).decodeSet (feed s
        (s.captureUnit u).decodeSet (o.toList.map (fun p => { phase := p, isOpen := true }))
          (s.captureUnit u).work)).list = [] ∧ WorkSound (flushed s (s.captureUnit u).decodeSet (feed s
        (s.captureUnit u).decodeSet (o.toList.map (fun p => { phase := p, isOpen := true }))
          (s.captureUnit u).work)) := fun hc =>
      have h := flushed_induct (P := fun _ => True) (fun _ _ _ _ => trivial) (feed_length_le (work_sound hc) _).1 trivial
      ⟨h.1, h.2.1⟩
    rw [hflush]
    generalize flushed s (s.captureUnit u).decodeSet (feed s (s.captureUnit u).decodeSet
      (o.toList.map (fun p => { phase := p, isOpen := true })) (s.captureUnit u).work) = w at hin hempty
    refine ⟨_, _, _, keepWork_unit u s _, .ofWork hmode (fun _ hc => ?_) (hin _ (fun _ _ => trivial) fun _ _ => trivial)
      (fun ho hpl => hin _ hpl ho), fun hc => ?_⟩
    · obtain ⟨hlist, hsound⟩ := hempty hc
      refine ⟨hsound, by rw [hlist]; exact Nat.zero_le _, fun h hh => ?_⟩
      rw [hsound.held_none hlist] at hh
      cases hh
    · obtain ⟨hlist, hsound⟩ := hempty hc
      exact ⟨by rw [hlist]; rfl, hsound.held_none hlist⟩

end

/-! ### Edges and frame ends -/

theorem endFrame_row {u : Fin 2} {o : Option Phase} {phases : Nat} {stuck cut : Bool} {flag : Option Flag}
    {next : CaptureState} {s : State}
    (hok : (s.captureUnit u).Ok → next.Ok (s.captureUnit u).config ∧ phases ≤ 255 ∧ ∀ p, o = some p → PhaseOk p) :
    RxRow u s (endFrame u o phases stuck cut flag next s)
      ∧ ((endFrame u o phases stuck cut flag next s).captureUnit u).state = next := by
  obtain ⟨pl, held, l, hunit, hstep, hempty⟩ := flushUnit_unit u s o
  have hend : (endFrame u o phases stuck cut flag next s).captureUnit u = { s.captureUnit u with
      pendingList := pl, held := held, frameNumber := (s.captureUnit u).frameNumber + 1, state := next
      log := offered l (.frameEnd (s.captureUnit u).frameNumber phases stuck cut) } := by
    have hoffer := offerRecord_unit u (flushUnit u o s) (.frameEnd (s.captureUnit u).frameNumber phases stuck cut)
    rw [hunit] at hoffer
    cases flag <;> simp [endFrame, hoffer]
  refine ⟨⟨?_, ?_⟩, by rw [hend]⟩
  · have hoffer := (flushUnit_shape u s o).trans (offerRecord_shape u _
      (.frameEnd (s.captureUnit u).frameNumber phases stuck cut))
    cases flag with
    | none => exact hoffer.trans (.setUnit u _ _)
    | some f => exact (hoffer.trans (.setFlag u f _)).trans (.setUnit u _ _)
  · rw [hend]
    refine ⟨fun h => captureLogOk_offered (hstep.log h) rfl, fun _ h => ?_, fun h => ?_⟩
    · exact decoderOk_of_empty (hempty h).1 (hempty h).2
    · obtain ⟨hnext, hphases, hopen⟩ := hok h
      obtain ⟨hpl, hl⟩ := hstep.ranges hopen h.2.2.1 h.2.2.2
      exact ⟨h.1, hnext, hpl, records_offered hl hphases⟩

section
variable {u : Fin 2} {s : State} {c : CaptureUnit} {f : Machine.Filter}

theorem edgeReached_accept (k : CaptureConfig) : edgeReached k f.accept = false :=
  decide_eq_false (Nat.not_succ_le_zero k.filter)

/-- An accepted edge by itself: the unit's new state, and in IN_FRAME a phase to close. -/
theorem acceptedEdge_cases (h : edgeDue (s.captureUnit u) = true) :
    (∃ f x, (s.captureUnit u).state = .armed (some f) ∧ (x = .inFrame f.accept (s.captureUnit u).config.filter 0
        ∨ x = .armed (some f.accept)) ∧ acceptedEdge u s = s.setCapture u x)
    ∨ (∃ f x, (s.captureUnit u).state = .stuck f ∧ (x = .armed (some f.accept) ∨ x = .stuck f.accept)
        ∧ acceptedEdge u s = s.setCapture u x)
    ∨ ∃ f age phases, (s.captureUnit u).state = .inFrame f age phases
        ∧ edgeReached (s.captureUnit u).config f = true
        ∧ acceptedEdge u s = closePhase u { level := f.accepted, length := age - (s.captureUnit u).config.filter }
          (s.setCapture u (.inFrame f.accept (s.captureUnit u).config.filter (saturate255 (phases + 1)))) := by
  cases hst : (s.captureUnit u).state with
  | off => simp [edgeDue, hst] at h
  | armed o =>
    cases o with
    | none => simp [edgeDue, hst] at h
    | some f =>
      have hr : edgeReached (s.captureUnit u).config f = true := by simpa [edgeDue, hst] using h
      cases hf : f.accepted with
      | space => exact .inl ⟨f, _, rfl, .inl rfl, by simp [acceptedEdge, hst, hr, hf]⟩
      | mark => exact .inl ⟨f, _, rfl, .inr rfl, by simp [acceptedEdge, hst, hr, hf]⟩
  | inFrame f age phases =>
    have hr : edgeReached (s.captureUnit u).config f = true := by simpa [edgeDue, hst] using h
    exact .inr (.inr ⟨f, age, phases, rfl, hr, by simp [acceptedEdge, hst, hr]⟩)
  | stuck f =>
    have hr : edgeReached (s.captureUnit u).config f = true := by simpa [edgeDue, hst] using h
    cases hf : f.accepted with
    | mark => exact .inr (.inl ⟨f, _, rfl, .inl rfl, by simp [acceptedEdge, hst, hr, hf]⟩)
    | space => exact .inr (.inl ⟨f, _, rfl, .inr rfl, by simp [acceptedEdge, hst, hr, hf]⟩)

/-- A unit outside a frame takes a state whose filter run is 0. -/
theorem UnitStep.accept {x : CaptureState} (hcode : c.state.code ≠ 2)
    (hx : x = .inFrame f.accept c.config.filter 0 ∨ x = .armed (some f.accept) ∨ x = .stuck f.accept) :
    UnitStep s c { c with state := x } := by
  refine .setState (fun h => absurd h hcode) fun _ => ?_
  rcases hx with rfl | rfl | rfl
  · exact ⟨Nat.zero_le _, Nat.zero_le _, le_rfl, fun h => absurd h (lt_irrefl 0)⟩
  · exact Nat.zero_le _
  · exact Nat.zero_le _

/-- The phase that an accepted edge closes is as long as the manual lets it be (R126, R134). -/
theorem closedPhase_ok {age phases : Nat} (h : CaptureState.Ok c.config (.inFrame f age phases)) (hc : c.config.Ok)
    (hr : edgeReached c.config f = true) : PhaseOk { level := f.accepted, length := age - c.config.filter } := by
  obtain ⟨hrun, -, hage, hlimit⟩ := h
  have hreached : c.config.filter + 1 ≤ f.run := of_decide_eq_true hr
  have hbound : c.config.limit f.accepted ≤ 65535 := by
    cases f.accepted
    · exact le_rfl
    · exact hc.2.2.1
  have := hlimit (by omega)
  exact ⟨by simp only; omega, by simp only; omega⟩

theorem acceptedEdge_row (h : edgeDue (s.captureUnit u) = true) :
    RxRow u s (acceptedEdge u s) ∧ edgeDue ((acceptedEdge u s).captureUnit u) = false := by
  have hset : ∀ x, (s.setCapture u x).captureUnit u = { s.captureUnit u with state := x } := fun x =>
    (setUnit_captureUnit u _ s u).trans (if_pos rfl)
  rcases acceptedEdge_cases h with ⟨f, x, hst, hx, e⟩ | ⟨f, x, hst, hx, e⟩ | ⟨f, age, phases, hst, hr, e⟩ <;> rw [e]
  · refine ⟨.setUnit (.accept (by rw [hst]; exact (by decide : (1 : BitVec 2) ≠ 2)) (f := f) ?_), ?_⟩
    · rcases hx with rfl | rfl
      · exact .inl rfl
      · exact .inr (.inl rfl)
    · rw [hset]
      rcases hx with rfl | rfl <;> exact edgeReached_accept _
  · refine ⟨.setUnit (.accept (by rw [hst]; exact (by decide : (3 : BitVec 2) ≠ 2)) (f := f) (.inr hx)), ?_⟩
    rw [hset]
    rcases hx with rfl | rfl <;> exact edgeReached_accept _
  · obtain ⟨pl, held, l, hunit, hstep⟩ := closePhase_unit u
      (s.setCapture u (.inFrame f.accept (s.captureUnit u).config.filter (saturate255 (phases + 1))))
      { level := f.accepted, length := age - (s.captureUnit u).config.filter }
    rw [hset] at hunit hstep
    refine ⟨⟨(RxShape.setUnit u _ s).trans (closePhase_shape u _ _), ?_⟩, ?_⟩
    · rw [hunit]
      have hcode : (s.captureUnit u).state.code = 2 := by rw [hst]; rfl
      refine ⟨hstep.log, fun hsym hc => ?_, fun hc => ?_⟩
      · obtain ⟨hlen, hheld⟩ := hstep.short hsym ⟨hc.1, fun hne => ⟨rfl, (hc.2.1 hne).2⟩, hc.2.2⟩
        exact ⟨hlen, fun hne => ⟨rfl, (hstep.mode hne).elim (fun hpl => (hc.2.1 hpl).2) id⟩, hheld⟩
      · have hstate := hc.2.1
        rw [hst] at hstate
        obtain ⟨hpl, hl⟩ := hstep.ranges (closedPhase_ok hstate hc.1 hr) hc.2.2.1 hc.2.2.2
        exact ⟨hc.1, ⟨Nat.zero_le _, Nat.min_le_left _ _, le_rfl, fun h => absurd h (lt_irrefl 0)⟩, hpl, hl⟩
    · rw [hunit]
      exact edgeReached_accept _

theorem idleTimeout_row (h : idleReached (s.captureUnit u) = true) :
    RxRow u s (idleTimeout u s) ∧ unitDue ((idleTimeout u s).captureUnit u) = false := by
  obtain ⟨f, age, phases, hst, hlevel, hrun, hlong⟩ := (idleReached_iff _).mp h
  have e : idleTimeout u s = endFrame u (some { level := .space, length := min 65535 (age + 1) }) phases false false
      (some (.capFrame u)) (.armed (some f)) s := by
    simp only [idleTimeout, hst, h, if_true]
  rw [e]
  obtain ⟨hrow, hnext⟩ := endFrame_row (u := u) (o := some { level := .space, length := min 65535 (age + 1) })
    (phases := phases) (stuck := false) (cut := false) (flag := some (.capFrame u)) (next := .armed (some f)) (s := s)
    (fun hc => by
      have hstate := hc.2.1
      rw [hst] at hstate
      refine ⟨(Nat.le_of_eq hrun).trans (Nat.zero_le _), hstate.2.1, fun p hp => ?_⟩
      cases hp
      exact ⟨Nat.le_min.mpr ⟨by decide, Nat.le_add_left 1 age⟩, Nat.min_le_left _ _⟩)
  refine ⟨hrow, ?_⟩
  simp [unitDue, edgeDue, idleReached, stuckReached, hnext, edgeReached, hrun]

theorem stuckMark_row (h : stuckReached (s.captureUnit u) = true) :
    RxRow u s (stuckMark u s) ∧ unitDue ((stuckMark u s).captureUnit u) = false := by
  obtain ⟨f, age, phases, hst, hlevel, hrun, hlong⟩ := (stuckReached_iff _).mp h
  have e : stuckMark u s = endFrame u none phases true false (some (.capStuck u)) (.stuck f) s := by
    simp only [stuckMark, hst, h, if_true]
  rw [e]
  obtain ⟨hrow, hnext⟩ := endFrame_row (u := u) (o := none) (phases := phases) (stuck := true) (cut := false)
    (flag := some (.capStuck u)) (next := .stuck f) (s := s) (fun hc => by
      have hstate := hc.2.1
      rw [hst] at hstate
      exact ⟨(Nat.le_of_eq hrun).trans (Nat.zero_le _), hstate.2.1, fun p hp => nomatch hp⟩)
  refine ⟨hrow, ?_⟩
  simp [unitDue, edgeDue, idleReached, stuckReached, hnext, edgeReached, hrun]

/-- How many pieces of a beat event's work a unit may still have: an edge and then a frame end. -/
def unitWork (c : CaptureUnit) : Nat := if edgeDue c then 2 else if unitDue c then 1 else 0

theorem unitWork_le (c : CaptureUnit) : unitWork c ≤ 2 := by
  unfold unitWork
  split
  · exact le_rfl
  · split <;> decide

theorem unitWork_pos (c : CaptureUnit) : unitDue c = true ↔ 0 < unitWork c := by
  unfold unitWork
  split
  · next h => simp [unitDue, h]
  · split
    · next h => simp [h]
    · next h => simp [h]

theorem unitWork_of_not_edge (h : edgeDue c = false) : unitWork c ≤ 1 := by
  unfold unitWork
  rw [h]
  split
  · next h => cases h
  · split <;> decide

/-- A unit that acts on its sample has less left to do of it. -/
theorem takeSample_row (h : unitDue (s.captureUnit u) = true) : RxRow u s (takeSample u s)
    ∧ unitWork ((takeSample u s).captureUnit u) < unitWork (s.captureUnit u) := by
  unfold takeSample
  by_cases hedge : edgeDue (s.captureUnit u) = true
  · rw [if_pos hedge]
    obtain ⟨hrow, hno⟩ := acceptedEdge_row hedge
    have htwo : unitWork (s.captureUnit u) = 2 := if_pos hedge
    exact ⟨hrow, htwo ▸ Nat.lt_succ_of_le (unitWork_of_not_edge hno)⟩
  · rw [if_neg hedge]
    have hpos := (unitWork_pos _).mp h
    have hnone : ∀ {c : CaptureUnit}, unitDue c = false → unitWork c = 0 := fun hc =>
      Nat.eq_zero_of_not_pos fun h => absurd ((unitWork_pos _).mpr h) (by simp [hc])
    split
    · next hidle =>
      obtain ⟨hrow, hno⟩ := idleTimeout_row hidle
      exact ⟨hrow, (hnone hno).symm ▸ hpos⟩
    · next hidle =>
      have hstuck : stuckReached (s.captureUnit u) = true := by simpa [unitDue, hedge, hidle] using h
      obtain ⟨hrow, hno⟩ := stuckMark_row hstuck
      exact ⟨hrow, (hnone hno).symm ▸ hpos⟩

end

/-! ### The rows and the commands -/

section
variable {s t : State}

theorem edgeDue_iff (c : CaptureUnit) :
    edgeDue c = true ↔ ∃ f, filterOf c.state = some f ∧ c.config.filter + 1 ≤ f.run := by
  unfold edgeDue filterOf
  cases c.state with
  | armed o => cases o <;> simp [edgeReached]
  | _ => simp [edgeReached]

theorem acceptedEdge_any (u : Fin 2) (s : State) : RxRow u s (acceptedEdge u s) := by
  by_cases h : edgeDue (s.captureUnit u) = true
  · exact (acceptedEdge_row h).1
  · rw [acceptedEdge_of_not_due fun hdue => h ((edgeDue_iff _).mpr hdue)]
    exact .refl u s

theorem idleTimeout_any (u : Fin 2) (s : State) : RxRow u s (idleTimeout u s) := by
  by_cases h : idleReached (s.captureUnit u) = true
  · exact (idleTimeout_row h).1
  · rw [idleTimeout_of_not_due fun hdue => h ((idleReached_iff _).mpr hdue)]
    exact .refl u s

theorem stuckMark_any (u : Fin 2) (s : State) : RxRow u s (stuckMark u s) := by
  by_cases h : stuckReached (s.captureUnit u) = true
  · exact (stuckMark_row h).1
  · rw [stuckMark_of_not_due fun hdue => h ((stuckReached_iff _).mpr hdue)]
    exact .refl u s

/-- The configuration that CAP_SETUP forms is in R123's ranges. -/
theorem setupConfig_ok {k : CaptureConfig} (h : setupConfig s = some k) : k.Ok := by
  unfold setupConfig at h
  split at h
  · split at h
    · cases h
    · next hbad =>
      cases h
      have hidle := (s.arg 4).isLt
      refine ⟨?_, ?_, ?_, ?_, ?_⟩ <;> simp only <;> omega
  · cases h

theorem cmdCapSetup_row (h : cmdCapSetup s = .ok t) : ∃ u, RxRow u s t := by
  unfold cmdCapSetup at h
  split at h
  · cases h
  · next u _ =>
    split at h
    · cases h
    · next hoff =>
      have hst : (s.captureUnit u).state = .off := not_not.mp hoff
      split at h
      · cases h
      · next k hk =>
        cases h
        refine ⟨u, .setUnit ⟨id, fun _ hc => ?_, fun hc => ⟨setupConfig_ok hk, ?_, hc.2.2⟩⟩⟩
        · have hnil : (s.captureUnit u).pendingList = [] := by
            by_contra hne
            have := (hc.2.1 hne).1
            rw [hst] at this
            cases this
          exact decoderOk_of_empty hnil (held_none_of_decoderOk (c := s.captureUnit u) hc hnil)
        · simp only [hst]
          trivial

theorem cmdCapStart_row (h : cmdCapStart s = .ok t) : ∃ u, RxRow u s t := by
  unfold cmdCapStart at h
  split at h
  · cases h
  · next u _ =>
    split at h
    · cases h
    · next hoff =>
      cases h
      have hst : (s.captureUnit u).state = .off := not_not.mp hoff
      exact ⟨u, .setUnit (.setState (fun h2 => by rw [hst] at h2; cases h2) fun _ => trivial)⟩

theorem cmdCapStop_row (h : cmdCapStop s = .ok t) : ∃ u, RxRow u s t := by
  unfold cmdCapStop at h
  split at h
  · cases h
  · next u _ =>
    refine ⟨u, ?_⟩
    split at h
    · cases h
    · next f hst =>
      cases h
      exact .setUnit (.setState (fun h2 => by rw [hst] at h2; cases h2) fun _ => trivial)
    · next f hst =>
      cases h
      exact .setUnit (.setState (fun h2 => by rw [hst] at h2; cases h2) fun _ => trivial)
    · next f age phases hst =>
      cases h
      refine (endFrame_row fun hc => ?_).1
      have hstate := hc.2.1
      rw [hst] at hstate
      exact ⟨trivial, hstate.2.1, fun p hp => nomatch hp⟩

/-- CAP_POP takes the oldest record of a log. -/
theorem cmdCapPop_row (h : cmdCapPop s = .ok t) : ∃ u t', RxRow u s t' ∧ t = { t' with capOut := t.capOut } := by
  unfold cmdCapPop at h
  split at h
  · cases h
  · next u _ =>
    split at h
    · cases h
    · next r rest hlog =>
      cases h
      refine ⟨u, s.setUnit u { s.captureUnit u with log := rest }, .setUnit ⟨fun h => ?_, fun _ => id, fun h => ?_⟩, rfl⟩
      · rw [hlog] at h
        exact captureLogOk_tail h
      · exact ⟨h.1, h.2.1, h.2.2.1, fun x hx => h.2.2.2 x (hlog ▸ List.mem_cons_of_mem r hx)⟩

end

/-! ### All units at once -/

/-- A filter that has not reached its edge counts at most one sample more. -/
theorem take_run_le {k : CaptureConfig} {f : Machine.Filter} (l : Level) (h : edgeReached k f = false) :
    (f.take l).run ≤ k.filter + 1 := by
  have : ¬ k.filter + 1 ≤ f.run := of_decide_eq_false h
  unfold Filter.take
  split
  · exact Nat.zero_le _
  · simp only
    omega

/-- In IN_FRAME the next sample keeps the phase timer's promise, where neither an edge nor a frame end is due (R126). -/
theorem take_inFrame_ok {c : CaptureUnit} {f : Machine.Filter} {age phases : Nat} (l : Level)
    (hst : c.state = .inFrame f age phases) (hdue : unitDue c = false)
    (h : CaptureState.Ok c.config (.inFrame f age phases)) :
    CaptureState.Ok c.config (.inFrame (f.take l) (age + 1) phases) := by
  have ⟨hedge, hidle, hstuck⟩ : edgeReached c.config f = false
      ∧ ¬ (f.accepted = .space ∧ f.run = 0 ∧ c.config.idle ≤ age + 1)
      ∧ ¬ (f.accepted = .mark ∧ f.run = 0 ∧ 65535 ≤ age + 1) := by
    simpa [unitDue, edgeDue, idleReached, stuckReached, hst, and_assoc] using hdue
  obtain ⟨-, hphases, hage, hlimit⟩ := h
  have hrun : ¬ c.config.filter + 1 ≤ f.run := of_decide_eq_false hedge
  have hshort : f.run = 0 → age + 1 < c.config.limit f.accepted := by
    intro h0
    cases hf : f.accepted with
    | space => exact Nat.lt_of_not_le fun hle => hidle ⟨hf, h0, hle⟩
    | mark => exact Nat.lt_of_not_le fun hle => hstuck ⟨hf, h0, hle⟩
  refine ⟨take_run_le l hedge, hphases, ?_, fun hpos => ?_⟩ <;> unfold Filter.take at * <;> split
  · simp only; omega
  · simp only; omega
  · next hl => simp [hl] at hpos
  · simp only
    rcases Nat.eq_zero_or_pos f.run with h0 | h0
    · have := hshort h0
      omega
    · have := hlimit h0
      omega

/-- A unit with nothing left to do of a beat event samples the next one. -/
theorem sample_step (s : State) (sensed : BitVec 8) {c : CaptureUnit} (hdue : unitDue c = false) :
    UnitStep s c (c.sample sensed) := by
  have hedge : edgeDue c = false := by
    cases h : edgeDue c with
    | false => rfl
    | true => simp [unitDue, h] at hdue
  refine .setState (fun h => ?_) fun ⟨_, hstate, _, _⟩ => ?_
  · cases hst : c.state with
    | inFrame f age phases => rfl
    | _ =>
      rw [hst] at h
      cases h
  · generalize sampleLevel c.config.rest (lineOfBit (sensed.getLsbD c.config.pin)) = l
    unfold edgeDue at hedge
    cases hst : c.state with
    | off => trivial
    | armed o =>
      cases o with
      | none => exact Nat.zero_le _
      | some f => exact take_run_le l (by simpa [hst] using hedge)
    | inFrame f age phases => exact take_inFrame_ok l hst hdue (hst ▸ hstate)
    | stuck f => exact take_run_le l (by simpa [hst] using hedge)

theorem engineReset_step (s : State) (c : CaptureUnit) : UnitStep s c c.engineReset :=
  ⟨fun _ => captureLogOk_nil, fun _ _ => decoderOk_of_empty rfl rfl,
    fun h => ⟨h.1, trivial, fun _ hp => absurd hp List.not_mem_nil, fun _ hr => absurd hr List.not_mem_nil⟩⟩

end Sys2Proof.Proofs
end

section
/-! SUPPORT. What every change keeps of the promises about all blocks, part by part, and what the commands keep. -/

namespace Sys2Proof.Proofs

open Sys2Proof Sys2Proof.Machine Sys2Proof.Machine.Laws Sys2Proof.Stated

/-! ### The promises of all blocks -/

/-- A change outside a full reset keeps every promise of its own block, each by itself. -/
structure Kept (s t : State) : Prop where
  inReset : t.inReset = s.inReset
  tx : TxKept s t
  carriers : CarriersOk s → CarriersOk t
  routes : RoutesOk s → RoutesOk t
  timebase : TimebaseOk s → TimebaseOk t
  events : EventsOk s → EventsOk t
  port : PortOk s → PortOk t
  logs : CaptureLogsOk s → CaptureLogsOk t
  decoders : DecodersOk s → DecodersOk t
  units : UnitsOk s → UnitsOk t

theorem Kept.trans {s t u : State} (h : Kept s t) (k : Kept t u) : Kept s u :=
  ⟨k.inReset.trans h.inReset, h.tx.trans k.tx, k.carriers ∘ h.carriers, k.routes ∘ h.routes, k.timebase ∘ h.timebase,
    k.events ∘ h.events, k.port ∘ h.port, k.logs ∘ h.logs, k.decoders ∘ h.decoders, k.units ∘ h.units⟩

section
variable (s : State)

/-- Registers that no promise is about, and the model's own counter and queue. -/
theorem Kept.quiet (code : BitVec 8) (r : Result) (args : Vector Word 6) (stage : Vector Word 12)
    (clOut : Vector Word 3) (capOut : Vector Word 2) (free : Nat) (pending : List Instr) :
    Kept s { s with
      resultCode := code, result := r, args := args, stage := stage, clOut := clOut, capOut := capOut
      freeCount := free, pending := pending } :=
  ⟨rfl, .of_eq rfl rfl rfl, id, id, id, id, id, id, id, id⟩

theorem Kept.refl : Kept s s := .quiet s _ _ _ _ _ _ _ _

/-- The tables, where no symbol record becomes longer than 8 phases. -/
theorem Kept.tables (symbols : Vector Symbol 64) (slots : Vector Slot 32)
    (h : (∀ i, (s.symbol i).lengths.length ≤ 8) → ∀ i : Fin 64, (symbols[i]).lengths.length ≤ 8) :
    Kept s { s with symbols := symbols, slots := slots } :=
  ⟨rfl, .of_eq rfl rfl rfl, id, id, id, id, id, id, fun ⟨hsym, hdec⟩ => ⟨h hsym, hdec⟩, id⟩

theorem Kept.setCarriers (v : Vector Carrier 2) (h : CarriersOk s → CarriersOk { s with carriers := v }) :
    Kept s { s with carriers := v } :=
  ⟨rfl, .of_eq rfl rfl rfl, h, id, id, id, id, id, id, id⟩

theorem Kept.setPins (v : Vector Pin 8) (h : RoutesOk s → RoutesOk { s with pins := v }) :
    Kept s { s with pins := v } :=
  ⟨rfl, .of_eq rfl rfl rfl, id, h, id, id, id, id, id, id⟩

theorem Kept.setClock (k count : Nat) (h : TimebaseOk s → TimebaseOk { s with exponent := k, count := count }) :
    Kept s { s with exponent := k, count := count } :=
  ⟨rfl, .of_eq rfl rfl rfl, id, id, h, id, id, id, id, id⟩

theorem Kept.setEvents (pend enable : Vector Word 2)
    (h : EventsOk s → EventsOk { s with pend := pend, enable := enable }) :
    Kept s { s with pend := pend, enable := enable } :=
  ⟨rfl, .of_eq rfl rfl rfl, id, id, id, h, id, id, id, id⟩

theorem Kept.setPort (p : Port) (sel : Bool) (h : PortOk s → PortOk { s with port := p, selLow := sel }) :
    Kept s { s with port := p, selLow := sel } :=
  ⟨rfl, .of_eq rfl rfl rfl, id, id, id, id, h, id, id, id⟩

theorem Kept.setUnits (v : Vector CaptureUnit 2) (h : ∀ u : Fin 2, UnitStep s (s.captureUnit u) v[u]) :
    Kept s { s with units := v } :=
  ⟨rfl, .of_eq rfl rfl rfl, id, id, id, id, id, fun hs u => (h u).log (hs u),
    fun ⟨hsym, hdec⟩ => ⟨hsym, fun u => (h u).decoder hsym (hdec u)⟩, fun hs u => (h u).ok (hs u)⟩

theorem Kept.setChannels (v : Vector Channel 4) (log : List Completion) (waits : List (Fin 4))
    (h : TxKept s { s with channels := v, log := log, waitList := waits }) :
    Kept s { s with channels := v, log := log, waitList := waits } :=
  ⟨rfl, h, id, id, id, id, id, id, id, id⟩

end

/-- A row of one channel, after which the host may have read a record of the log. -/
theorem Kept.ofShape {n : Fin 4} {s t : State} {clOut : Vector Word 3} {log : List Completion}
    (h : TxShape n { s with clOut := clOut, log := log } t) (hkept : TxKept s t) : Kept s t := by
  obtain ⟨ch, slots, log, waits, pend, rfl, hpend⟩ := h
  exact ⟨rfl, hkept, id, id, id, fun hs r => ⟨hpend (fun r => (hs r).1) r, (hs r).2⟩, id, id, id, id⟩

theorem TxRow.all {n : Fin 4} {s t : State} (h : TxRow n s t) : Kept s t :=
  .ofShape (clOut := s.clOut) (log := s.log) h.shape h.kept

/-- A row of one unit. -/
theorem RxRow.all {u : Fin 2} {s t : State} (h : RxRow u s t) : Kept s t := by
  obtain ⟨hshape, hstep⟩ := h
  have hunit : ∀ P : CaptureUnit → Prop, (P (s.captureUnit u) → P (t.captureUnit u)) → (∀ v, P (s.captureUnit v)) →
      ∀ v, P (t.captureUnit v) := fun P hP hs v => by
    by_cases hv : v = u
    · exact hv ▸ hP (hs u)
    · rw [hshape.captureUnit_of_ne hv]
      exact hs v
  have hlogs : CaptureLogsOk s → CaptureLogsOk t := hunit (fun c => CaptureLogOk c.log) hstep.log
  have hunits : UnitsOk s → UnitsOk t := hunit CaptureUnit.Ok hstep.ok
  have hdecoders := fun hsym => hunit DecoderOk (hstep.decoder hsym)
  obtain ⟨c, pend, rfl, hpend⟩ := hshape
  exact ⟨rfl, .of_eq rfl rfl rfl, id, id, id, fun hs r => ⟨hpend (fun r => (hs r).1) r, (hs r).2⟩, id,
    hlogs, fun ⟨hsym, hdec⟩ => ⟨hsym, hdecoders hsym hdec⟩, hunits⟩

/-! ### The tables' commands -/

section
variable {s t : State}

theorem Kept.setSlot (i : Fin 32) (x : Slot) (s : State) : Kept s (s.setSlot i x) := .tables s s.symbols _ id

theorem Kept.setSymbol {i : Fin 64} {x : Symbol} (hx : x.lengths.length ≤ 8) : Kept s (s.setSymbol i x) := by
  refine .tables s _ s.slots fun hsym j => ?_
  have := setSymbol_symbol i x s j
  change ((s.setSymbol i x).symbol j).lengths.length ≤ 8
  rw [this]
  split
  · exact hx
  · exact hsym j

theorem Kept.raiseRefs (l : List (Fin 64)) (s : State) : Kept s (s.raiseRefs l) := by
  rw [raiseRefs_eq]
  exact .tables s _ s.slots fun hsym j => by simpa using hsym j

theorem Kept.lowerRefs (l : List (Fin 64)) (s : State) : Kept s (s.lowerRefs l) := by
  rw [lowerRefs_eq]
  exact .tables s _ s.slots fun hsym j => by simpa using hsym j

theorem cmdDefineSymbol_kept (h : cmdDefineSymbol s = .ok t) : Kept s t := by
  unfold cmdDefineSymbol at h
  split at h
  · cases h
  · next i _ =>
    split at h
    · cases h
    · next hargs =>
      split at h
      · cases h
      · cases h
        have hok : (definedSymbol s (s.symbol i).refs).Ok := definedSymbol_ok (by simpa using hargs) _
        exact .setSymbol hok.2.1

theorem cmdClearSymbol_kept (h : cmdClearSymbol s = .ok t) : Kept s t := by
  unfold cmdClearSymbol at h
  split at h
  · cases h
  · split at h
    · cases h
    · split at h
      · cases h
      · cases h
        exact .setSymbol (Nat.zero_le _)

theorem cmdReadSymbol_kept (h : cmdReadSymbol s = .ok t) : Kept s t := by
  unfold cmdReadSymbol at h
  split at h <;> cases h
  exact .quiet s _ _ _ _ _ _ _ _

theorem cmdOpenSeq_kept (h : cmdOpenSeq s = .ok t) : Kept s t := by
  unfold cmdOpenSeq at h
  split at h
  · cases h
  · split at h <;> cases h
    exact .setSlot _ _ s

theorem cmdAppendSeq_kept (h : cmdAppendSeq s = .ok t) : Kept s t := by
  unfold cmdAppendSeq at h
  split at h
  · cases h
  · simp only at h
    split at h
    · cases h
    · split at h
      · cases h
      · split at h
        · cases h
        · split at h <;> cases h
          exact (Kept.setSlot _ _ s).trans (.raiseRefs _ _)

theorem cmdSealSeq_kept (h : cmdSealSeq s = .ok t) : Kept s t := by
  unfold cmdSealSeq at h
  split at h
  · cases h
  · split at h
    · cases h
    · split at h <;> cases h
      exact .setSlot _ _ s

theorem emptySlot_kept (i : Fin 32) (s : State) : Kept s (emptySlot i s) :=
  (Kept.setSlot i _ s).trans (.lowerRefs _ _)

theorem cmdDiscardSeq_kept (h : cmdDiscardSeq s = .ok t) : Kept s t := by
  unfold cmdDiscardSeq at h
  split at h
  · cases h
  · split at h <;> cases h
    exact emptySlot_kept _ s

theorem cmdFreeSeq_kept (h : cmdFreeSeq s = .ok t) : Kept s t := by
  unfold cmdFreeSeq at h
  split at h
  · cases h
  · split at h
    · cases h
    · split at h <;> cases h
      exact emptySlot_kept _ s

theorem cmdReadSeq_kept (h : cmdReadSeq s = .ok t) : Kept s t := by
  unfold cmdReadSeq at h
  split at h
  · cases h
  · split at h <;> cases h
    exact .quiet s _ _ _ _ _ _ _ _

theorem cmdCapDecodeSet_kept (h : cmdCapDecodeSet s = .ok t) : Kept s t := by
  unfold cmdCapDecodeSet at h
  split at h
  · cases h
  · next u _ =>
    simp only at h
    split at h
    · cases h
    · split at h
      · cases h
      · split at h
        · cases h
        · split at h <;> cases h
          refine ((Kept.raiseRefs _ s).trans (.lowerRefs _ _)).trans (RxRow.all (u := u) (.setUnit ?_))
          exact ⟨id, fun _ => id, id⟩

/-! ### The other commands -/

theorem sourceOfCode_inj {w v : Word} {x : Source} (hw : sourceOfCode w = some x) (hv : sourceOfCode v = some x) :
    w = v := by
  refine BitVec.eq_of_toNat_eq ?_
  have hnum : ∀ {w : Word}, sourceOfCode w = some x → w.toNat = sourceNumber x := fun {w} h => by
    unfold sourceOfCode at h
    split at h
    · cases h
      rfl
    · split at h
      · next h4 => cases h; exact h4
      · split at h
        · next h5 => cases h; exact h5
        · cases h
  rw [hnum hw, hnum hv]

theorem routesOk_setPin {p : Fin 8} {x : Pin} (hx : RoutesOk s → x.route.length ≤ 3 ∧ x.route.Nodup) (h : RoutesOk s) :
    RoutesOk (s.setPin p x) := by
  intro q
  rw [setPin_pin]
  split
  · exact hx h
  · exact h q

theorem cmdPinRoute_kept (h : cmdPinRoute s = .ok t) : Kept s t := by
  unfold cmdPinRoute at h
  split at h
  · cases h
  · next p _ =>
    simp only at h
    split at h
    · cases h
    · next hargs =>
      split at h
      · cases h
      · next hnodup =>
        cases h
        refine .setPins s _ (routesOk_setPin fun _ => ⟨?_, ?_⟩)
        · refine (List.length_filterMap_le _ _).trans ((List.length_take_le _ _).trans ?_)
          omega
        · exact (not_not.mp hnodup).filterMap fun _ _ _ hw hv => sourceOfCode_inj hw hv

theorem dropBeat_all (s : State) : Kept s (dropBeat s) := .setChannels s _ s.log s.waitList (dropBeat_kept s)

theorem cmdSetTimebase_kept (h : cmdSetTimebase s = .ok t) : Kept s t := by
  unfold cmdSetTimebase at h
  split at h
  · cases h
  · next hk =>
    split at h <;> cases h
    exact (dropBeat_all s).trans (.setClock _ _ _ fun _ => ⟨Nat.le_of_not_lt hk, Nat.two_pow_pos _⟩)

theorem engineReset_all (s : State) : Kept s (engineReset s) where
  inReset := rfl
  tx := engineReset_kept s
  carriers := id
  routes := id
  timebase h := ⟨h.1, Nat.two_pow_pos _⟩
  events h r := ⟨by simp [engineReset], (h r).2⟩
  port := id
  logs _ u := by
    have : (engineReset s).captureUnit u = (s.captureUnit u).engineReset := by simp [engineReset, State.captureUnit]
    exact this ▸ captureLogOk_nil
  decoders h := ⟨h.1, fun u => by
    have : (engineReset s).captureUnit u = (s.captureUnit u).engineReset := by simp [engineReset, State.captureUnit]
    exact this ▸ (engineReset_step s _).decoder h.1 (h.2 u)⟩
  units h u := by
    have : (engineReset s).captureUnit u = (s.captureUnit u).engineReset := by simp [engineReset, State.captureUnit]
    exact this ▸ (engineReset_step s _).ok (h u)

theorem cmdClPop_kept (h : cmdClPop s = .ok t) : Kept s t := by
  unfold cmdClPop at h
  split at h
  · cases h
  · next r rest hlog =>
    cases h
    obtain ⟨n, hshape⟩ := admitWaiting_shape { s with clOut := r.words, log := rest }
    refine .ofShape hshape (admitWaiting_kept rfl rfl (fun x hx => ?_) ?_ fun _ _ => ?_) <;> rw [hlog]
    · exact List.mem_cons_of_mem r hx
    · exact Nat.le_succ _
    · rfl

/-- The effect of every command, by the command. -/
theorem commandRun_kept {c : Command} (h : Command.run c s = .ok t) : Kept s t := by
  cases c with
  | defineSymbol => exact cmdDefineSymbol_kept h
  | clearSymbol => exact cmdClearSymbol_kept h
  | readSymbol => exact cmdReadSymbol_kept h
  | openSeq => exact cmdOpenSeq_kept h
  | appendSeq => exact cmdAppendSeq_kept h
  | sealSeq => exact cmdSealSeq_kept h
  | discardSeq => exact cmdDiscardSeq_kept h
  | freeSeq => exact cmdFreeSeq_kept h
  | readSeq => exact cmdReadSeq_kept h
  | postFrame =>
    obtain ⟨n, hrow⟩ := cmdPostFrame_row h
    exact hrow.all
  | flush =>
    obtain ⟨n, hrow⟩ := cmdFlush_row h
    exact hrow.all
  | abort =>
    obtain ⟨n, hrow⟩ := cmdAbort_row h
    exact hrow.all
  | release =>
    obtain ⟨n, hrow⟩ := cmdRelease_row h
    exact hrow.all
  | hold =>
    obtain ⟨n, hrow⟩ := cmdHold_row h
    exact hrow.all
  | resume =>
    obtain ⟨n, hrow⟩ := cmdResume_row h
    exact hrow.all
  | clPop => exact cmdClPop_kept h
  | capSetup =>
    obtain ⟨u, hrow⟩ := cmdCapSetup_row h
    exact hrow.all
  | capDecodeSet => exact cmdCapDecodeSet_kept h
  | capStart =>
    obtain ⟨u, hrow⟩ := cmdCapStart_row h
    exact hrow.all
  | capStop =>
    obtain ⟨u, hrow⟩ := cmdCapStop_row h
    exact hrow.all
  | capPop =>
    obtain ⟨u, t', hrow, e⟩ := cmdCapPop_row h
    rw [e]
    exact hrow.all.trans (.quiet t' _ _ _ _ _ _ _ _)
  | setTimebase => exact cmdSetTimebase_kept h
  | pinRoute => exact cmdPinRoute_kept h
  | engineReset =>
    cases h
    exact engineReset_all s

end

end Sys2Proof.Proofs
end

section
/-! SUPPORT. What every row and every step keeps of the promises about all blocks: O54 to O59. -/

namespace Sys2Proof.Proofs

open Sys2Proof Sys2Proof.Machine Sys2Proof.Machine.Laws Sys2Proof.Stated

/-! ### Carriers -/

theorem appliedPair_bounds (c : Carrier) : 2 ≤ (c.applyPair).period ∧ (c.applyPair).period ≤ 4095
    ∧ 1 ≤ (c.applyPair).high ∧ (c.applyPair).high ≤ (c.applyPair).period - 1 := by
  rw [applyPair_eq]
  simp only [pairOf]
  omega

theorem applyPair_ok {c : Carrier} (hen : c.enabled = false) (hout : c.outputHigh = false) : c.applyPair.Ok := by
  obtain ⟨h1, h2, h3, h4⟩ := appliedPair_bounds c
  exact ⟨h1, h2, h3, h4, fun h => absurd (hen.symm.trans h) (by decide), fun _ => hout⟩

/-- A generator that begins a period, its pair in range. -/
theorem beginPeriod_ok {c : Carrier} (h : 2 ≤ c.period ∧ c.period ≤ 4095 ∧ 1 ≤ c.high ∧ c.high ≤ c.period - 1)
    (hen : c.enabled = true) : c.beginPeriod.Ok := by
  obtain ⟨h1, h2, h3, h4⟩ := h
  exact ⟨h1, h2, h3, h4, fun _ => ⟨lt_of_lt_of_le Nat.zero_lt_two h1, iff_of_true rfl h3⟩,
    fun h => absurd (hen.symm.trans h) (by decide)⟩

theorem applyReady_bounds {c : Carrier} (h : c.Ok) : 2 ≤ c.applyReady.period ∧ c.applyReady.period ≤ 4095
    ∧ 1 ≤ c.applyReady.high ∧ c.applyReady.high ≤ c.applyReady.period - 1 := by
  unfold Carrier.applyReady
  split
  · exact appliedPair_bounds c
  · exact ⟨h.1, h.2.1, h.2.2.1, h.2.2.2.1⟩

theorem applyReady_enabled (c : Carrier) : c.applyReady.enabled = c.enabled := by
  unfold Carrier.applyReady
  split <;> rfl

theorem endPeriod_ok {c : Carrier} (h : c.Ok) (hen : c.enabled = true) : c.endPeriod.Ok :=
  beginPeriod_ok (applyReady_bounds h) ((applyReady_enabled c).trans hen)

theorem endHigh_ok {c : Carrier} (h : c.Ok) : c.endHigh.Ok := by
  obtain ⟨h1, h2, h3, h4, -, -⟩ := h
  exact ⟨h1, h2, h3, h4, fun _ => ⟨by simp only [Carrier.endHigh]; omega,
    iff_of_false Bool.false_ne_true (lt_irrefl c.high)⟩, fun _ => rfl⟩

theorem tick_ok {c : Carrier} (h : c.Ok) : c.tick.Ok := by
  unfold Carrier.tick
  split
  · next hen =>
    split
    · exact endPeriod_ok h hen
    · next hpos =>
      split
      · exact endHigh_ok h
      · next hhigh =>
        obtain ⟨h1, h2, h3, h4, hon, hoff⟩ := h
        refine ⟨h1, h2, h3, h4, fun _ => ⟨Nat.lt_of_not_le hpos, ?_⟩, hoff⟩
        rw [(hon hen).2]
        simp only
        omega
  · exact h

theorem writePeriod_ok {c : Carrier} (w : Word) (h : c.Ok) : (c.writePeriod w).Ok := by
  unfold Carrier.writePeriod
  split
  · exact h
  · next hen => exact applyPair_ok (by simpa using hen) (h.2.2.2.2.2 (by simpa using hen))

theorem writeHigh_ok {c : Carrier} (w : Word) (h : c.Ok) : (c.writeHigh w).Ok := by
  unfold Carrier.writeHigh
  split
  · exact h
  · next hen => exact applyPair_ok (by simpa using hen) (h.2.2.2.2.2 (by simpa using hen))

theorem turnOn_ok {c : Carrier} (h : c.Ok) : c.turnOn.Ok := by
  unfold Carrier.turnOn
  split
  · exact h
  · exact beginPeriod_ok (applyReady_bounds h) rfl

theorem turnOff_ok {c : Carrier} (h : c.Ok) : c.turnOff.Ok := by
  unfold Carrier.turnOff
  split
  · obtain ⟨h1, h2, h3, h4, -, -⟩ := h
    exact ⟨h1, h2, h3, h4, fun h => absurd h Bool.false_ne_true, fun _ => rfl⟩
  · exact h

theorem modCarrier_kept (g : Fin 2) {f : Carrier → Carrier} (s : State) (hf : (s.carrier g).Ok → (f (s.carrier g)).Ok) :
    Kept s (s.modCarrier g f) := by
  refine .setCarriers s _ fun hs k => ?_
  have := setCarrier_carrier g (f (s.carrier g)) s k
  change ((s.setCarrier g (f (s.carrier g))).carrier k).Ok
  rw [this]
  split
  · exact hf (hs g)
  · exact hs k

theorem markAllAbsent_all (s : State) : Kept s (markAllAbsent s) :=
  (((markAbsent_row 0 s).all.trans (markAbsent_row 1 _).all).trans (markAbsent_row 2 _).all).trans (markAbsent_row 3 _).all

theorem writeCarrierCtrl_kept (g : Fin 2) (en : Bool) (s : State) : Kept s (writeCarrierCtrl g en s) := by
  unfold writeCarrierCtrl
  split
  · exact modCarrier_kept g s turnOn_ok
  · split
    · exact (modCarrier_kept g s turnOff_ok).trans (markAllAbsent_all _)
    · exact .refl s

theorem carrierPeriodEnd_kept (g : Fin 2) (s : State) : Kept s (carrierPeriodEnd g s) := by
  unfold carrierPeriodEnd
  split
  · next h => exact modCarrier_kept g s fun hok => endPeriod_ok hok h.1
  · exact .refl s

theorem carrierHighTimeEnd_kept (g : Fin 2) (s : State) : Kept s (carrierHighTimeEnd g s) := by
  unfold carrierHighTimeEnd
  split
  · exact modCarrier_kept g s endHigh_ok
  · exact .refl s

/-! ### Pins, events and port -/

theorem writePinCfg_kept (p : Fin 8) (w : Word) (s : State) : Kept s (writePinCfg p w s) :=
  .setPins s _ fun h => routesOk_setPin (fun h => h p) h

theorem writeEvtPend_kept (r : Fin 2) (w : Word) (s : State) : Kept s (writeEvtPend r w s) := by
  refine .setEvents s _ s.enable fun h k => ⟨?_, (h k).2⟩
  simp only [Fin.getElem_fin, Vector.getElem_set, Fin.val_inj]
  split
  · next hr =>
    have h0 : s.pend[k.val] &&& ~~~(evtMask k) = 0 := (h k).1
    have hcomm : ∀ a b c : Word, (a &&& b) &&& c = (a &&& c) &&& b := fun a b c => by
      rw [BitVec.and_assoc, BitVec.and_comm b, ← BitVec.and_assoc]
    rw [hcomm, hr, h0]
    exact BitVec.zero_and
  · exact (h k).1

theorem writeEvtEn_kept (r : Fin 2) (w : Word) (s : State) : Kept s (writeEvtEn r w s) := by
  refine .setEvents s s.pend _ fun h k => ⟨(h k).1, ?_⟩
  simp only [Fin.getElem_fin, Vector.getElem_set, Fin.val_inj]
  split
  · next hr =>
    rw [hr, BitVec.and_assoc, BitVec.and_not_self]
    exact BitVec.and_zero
  · exact (h k).2

theorem advance_phase (p : Port) : p.advance.phase = p.phase ∧ p.advance.bitCount = p.bitCount := by
  unfold Port.advance
  split <;> exact ⟨rfl, rfl⟩

/-- A change of the port that keeps its frame phase, or is made in a frame. -/
theorem setPort_kept {s : State} {p : Port} (hphase : p.phase = s.port.phase ∨ s.port.phase ≠ .noFrame)
    (hbits : p.bitCount = s.port.bitCount) : Kept s { s with port := p } := by
  refine .setPort s p s.selLow fun ⟨hframe, hzero⟩ => ⟨fun h => ?_, hbits.trans hzero⟩
  rcases hphase with e | e
  · exact hframe (e ▸ h)
  · exact hframe e

theorem loadSnapshot_kept (s : State) : Kept s (loadSnapshot s) :=
  (setPort_kept (s := s) (p := { s.port with shift := readReg (Reg.ofAddr s.port.pointer) s }) (.inl rfl) rfl).trans
    (.quiet _ _ _ _ _ _ _ _ _)

theorem frameBegin_kept (s : State) : Kept s (frameBegin s) := by
  unfold frameBegin
  split
  · exact .refl s
  · simp only
    split
    · next hr =>
      refine .setPort s s.port true fun ⟨hframe, hzero⟩ => ⟨fun h => ?_, hzero⟩
      exact absurd ((hframe h).2.symm.trans hr) (by decide)
    · next hr =>
      have hrun : s.inReset = false := by simpa using hr
      exact .setPort s _ true fun _ => ⟨fun _ => ⟨rfl, hrun⟩, rfl⟩

theorem headerDone_kept (byte : BitVec 8) (s : State) : Kept s (headerDone byte s) := by
  unfold headerDone
  split
  · next h =>
    have hport : ∀ p : Port, p.bitCount = s.port.bitCount → Kept s { s with port := p } := fun p hp =>
      setPort_kept (.inr (by rw [h.2]; decide)) hp
    simp only
    split
    · refine .trans (hport _ ?_) (loadSnapshot_kept _)
      rfl
    · exact hport _ rfl
  · exact .refl s

theorem selRise_kept (s : State) : Kept s (selRise s) := .setPort s _ false fun _ => ⟨fun h => absurd rfl h, rfl⟩

theorem readWordDone_kept (s : State) : Kept s (readWordDone s) := by
  unfold readWordDone
  split
  · exact (setPort_kept (.inl (advance_phase _).1) (advance_phase _).2).trans (loadSnapshot_kept _)
  · exact .refl s

/-! ### The beat event -/

/-- How many pieces of a beat event's work the two units still have. -/
def unitsWork (s : State) : Nat := unitWork (s.captureUnit 0) + unitWork (s.captureUnit 1)

theorem unitsWork_le (s : State) : unitsWork s ≤ 4 :=
  Nat.add_le_add (unitWork_le _) (unitWork_le _)

theorem unitsWork_congr {s t : State} (h : t.units = s.units) : unitsWork t = unitsWork s := by
  simp only [unitsWork, State.captureUnit, h]

/-- A unit's row lowers what the units still have to do. -/
theorem takeSample_unitsWork {u : Fin 2} {s : State} (h : unitDue (s.captureUnit u) = true) :
    unitsWork (takeSample u s) < unitsWork s := by
  obtain ⟨hrow, hlt⟩ := takeSample_row h
  have hother : ∀ v, v ≠ u → (takeSample u s).captureUnit v = s.captureUnit v := fun v hv =>
    hrow.shape.captureUnit_of_ne hv
  unfold unitsWork
  fin_cases u
  · have h1 := hother 1 (by decide)
    simp only [Fin.zero_eta] at *
    rw [h1]
    omega
  · have h0 := hother 0 (by decide)
    simp only [Fin.mk_one] at *
    rw [h0]
    omega

/-- Everything one piece of a beat event's work can be: a unit's, as long as one has any, and then a channel's. -/
theorem settleOne_pieces (s : State) :
    (∃ u, unitDue (s.captureUnit u) = true ∧ settleOne s = takeSample u s)
    ∨ (unitsWork s = 0 ∧ dueChannels s = [] ∧ settleOne s = s)
    ∨ (unitsWork s = 0 ∧ ∃ n k, channelDue (s.channel n) = true ∧ (k = s.freeCount ∨ k = s.freeCount + 1)
      ∧ settleOne s = takeBeat n { s with freeCount := k }) := by
  have hwork : ∀ c : CaptureUnit, unitDue c ≠ true → unitWork c = 0 := fun c hc =>
    Nat.eq_zero_of_not_pos fun h => hc ((unitWork_pos c).mpr h)
  have hmem : ∀ n ∈ dueChannels s, channelDue (s.channel n) = true := fun n hn => (List.mem_filter.mp hn).2
  unfold settleOne
  split
  · next h => exact .inl ⟨0, h, rfl⟩
  · next h0 =>
    split
    · next h => exact .inl ⟨1, h, rfl⟩
    · next h1 =>
      have hidle : unitsWork s = 0 := by rw [unitsWork, hwork _ h0, hwork _ h1]
      split
      · next hnone => exact .inr (.inl ⟨hidle, hnone, rfl⟩)
      · next n hone => exact .inr (.inr ⟨hidle, n, s.freeCount, hmem n (by rw [hone]; exact List.mem_cons_self), .inl rfl, rfl⟩)
      · next n rest hne hlist =>
        refine .inr (.inr ⟨hidle, _, s.freeCount + 1, hmem _ ?_, .inr rfl, rfl⟩)
        rw [hlist]
        generalize Config.channelChoice s.freeCount % (n :: rest).length = i
        cases hi : (n :: rest)[i]? with
        | none => exact List.mem_cons_self
        | some m => exact List.mem_of_getElem? hi

theorem settleOne_unitsWork (s : State) : unitsWork (settleOne s) ≤ unitsWork s - 1 := by
  rcases settleOne_pieces s with ⟨u, hu, e⟩ | ⟨h0, -, e⟩ | ⟨h0, n, k, -, -, e⟩ <;> rw [e]
  · exact Nat.le_pred_of_lt (takeSample_unitsWork hu)
  · rw [h0]
  · rw [unitsWork_congr (takeBeat_row n _).shape.units]
    exact (Nat.le_of_eq h0).trans (Nat.zero_le _)

theorem settleUpTo_unitsWork (k : Nat) (s : State) (h : unitsWork s ≤ k) : unitsWork (settleUpTo k s) = 0 := by
  induction k generalizing s with
  | zero => exact Nat.le_zero.mp h
  | succ k ih =>
    rw [settleUpTo]
    split
    · have := settleOne_unitsWork s
      exact ih _ (by omega)
    · next hno =>
      have h01 : unitDue (s.captureUnit 0) = false ∧ unitDue (s.captureUnit 1) = false := by
        simp only [workLeft, Bool.or_eq_true, not_or, Bool.not_eq_true] at hno
        exact hno.1
      have hwork : ∀ c : CaptureUnit, unitDue c = false → unitWork c = 0 := fun c hc =>
        Nat.eq_zero_of_not_pos fun h => absurd (hc.symm.trans ((unitWork_pos c).mpr h)) (by decide)
      rw [unitsWork, hwork _ h01.1, hwork _ h01.2]

/-- Once the work of a beat event is done, no unit has any left. -/
theorem settle_unitDue (s : State) (u : Fin 2) : unitDue ((settle s).captureUnit u) = false := by
  have h := settleUpTo_unitsWork 8 s ((unitsWork_le s).trans (by decide))
  have h0 : unitWork ((settle s).captureUnit u) = 0 := by
    change unitsWork (settle s) = 0 at h
    have := Nat.add_eq_zero_iff.mp h
    fin_cases u
    · exact this.1
    · exact this.2
  by_contra hdue
  have := (unitWork_pos _).mp (by simpa using hdue)
  omega

theorem freeCount_kept (k : Nat) (s : State) : Kept s { s with freeCount := k } := .quiet s _ _ _ _ _ _ _ _

theorem settleOne_kept (s : State) : Kept s (settleOne s) := by
  rcases settleOne_pieces s with ⟨u, hu, e⟩ | ⟨-, -, e⟩ | ⟨-, n, k, -, -, e⟩ <;> rw [e]
  · exact (takeSample_row hu).1.all
  · exact .refl s
  · exact (freeCount_kept k s).trans (takeBeat_row n _).all

theorem settle_kept (s : State) : Kept s (settle s) :=
  settleUpTo_induct (P := Kept s) (fun t h => h.trans (settleOne_kept t)) 8 s (.refl s)

theorem beatEvent_kept (outside : Outside) (s : State) : Kept s (beatEvent outside s) := by
  refine (settle_kept s).trans ?_
  have hdue := settle_unitDue s
  unfold beatEvent
  simp only
  generalize settle s = t at hdue ⊢
  refine .trans (.setClock t t.exponent 0 fun h => ⟨h.1, Nat.two_pow_pos _⟩) (.trans
    (.setChannels _ (mapTable Channel.beat t.channels) t.log t.waitList (.of_own (fun n => ?_) rfl rfl))
    (.setUnits _ (mapTable (CaptureUnit.sample (t.sensedByte outside)) t.units) fun u => ?_))
  · have hbeat : (mapTable Channel.beat t.channels)[n] = (t.channel n).beat := mapTable_getElem _ _ _ _
    change OwnStep (t.channel n) (mapTable Channel.beat t.channels)[n]
    rw [hbeat]
    exact .beat _
  · have hsample : (mapTable (CaptureUnit.sample (t.sensedByte outside)) t.units)[u]
        = (t.captureUnit u).sample (t.sensedByte outside) := mapTable_getElem _ _ _ _
    rw [hsample]
    exact sample_step _ _ (hdue u)

theorem clockPeriod_kept (s : State) : Kept s (clockPeriod s) := by
  unfold clockPeriod
  simp only
  refine .trans ?_ (.trans (modCarrier_kept 0 _ tick_ok) (modCarrier_kept 1 _ tick_ok))
  split
  · exact (freeCount_kept _ s).trans (beatEvent_kept _ _)
  · next h =>
    exact (dropBeat_all s).trans (.setClock _ s.exponent (s.count + 1) fun hs => ⟨hs.1, Nat.lt_of_not_le h⟩)

/-! ### The rows -/

theorem arrive_kept (c : Command) (code : BitVec 8) (s : State) : Kept s (arrive code (Command.run c) s) := by
  unfold arrive
  split
  · next t h => exact (commandRun_kept h).trans (.quiet t _ _ _ _ _ _ _ _)
  · exact .quiet s _ _ _ _ _ _ _ _

theorem completeWord_kept {r : Reg} {f : State → State} {s : State} (h : Kept s (f s)) : Kept s (completeWord r f s) := by
  rcases completeWord_cases r f s with ⟨-, e⟩ | ⟨-, e⟩ <;> rw [e]
  · exact h.trans (setPort_kept (.inl (advance_phase _).1) (advance_phase _).2)
  · exact .refl s

theorem commandWord_kept (c : Command) (s : State) : Kept s (commandWord c (Command.run c) s) :=
  completeWord_kept (arrive_kept c c.code s)

theorem writeCmd_kept (code : BitVec 8) (s : State) : Kept s (writeCmd code s) := by
  unfold writeCmd
  split
  · exact arrive_kept _ code s
  · exact .quiet s _ _ _ _ _ _ _ _

theorem writeReg_kept (r : Reg) (w : Word) (s : State) : Kept s (writeReg r w s) := by
  cases r with
  | cmd => exact writeCmd_kept _ s
  | arg i => exact .quiet s _ _ _ _ _ _ _ _
  | stage i => exact .quiet s _ _ _ _ _ _ _ _
  | evtPend i => exact writeEvtPend_kept i w s
  | evtEn i => exact writeEvtEn_kept i w s
  | txCtrl n => exact (writeTxCtrl_row n _ _ s).all
  | cgPeriod g => exact modCarrier_kept g s (writePeriod_ok w)
  | cgHigh g => exact modCarrier_kept g s (writeHigh_ok w)
  | cgCtrl g => exact writeCarrierCtrl_kept g _ s
  | pinCfg p => exact writePinCfg_kept p w s
  | result | clOut _ | clStatus | capOut _ | capStatus _ | txStatus _ | timebase | pinSense | pinRoute _ => exact .refl s

theorem internalEvent_kept {f : State → State} {s : State} (h : Kept s (f s)) : Kept s (internalEvent f s) := by
  unfold internalEvent
  split
  · exact .refl s
  · exact h

/-- What a row leaves, if its outcome is a state. -/
theorem kept_of_next {s t u : State} (h : Kept s u)
    (e : (Host.Outcome.next u : Host.Outcome State Fault Refusal) = .next t) : Kept s t := by
  cases e
  exact h

/-- Every row but the two of a full reset keeps every block's promises. -/
theorem exec_kept {i : Instr} (hi : NoFullReset i) {s t : State} (h : exec i s = .next t) : Kept s t := by
  cases i with
  | frameBegin => exact kept_of_next (frameBegin_kept s) h
  | header byte => exact kept_of_next (headerDone_kept byte s) h
  | selRise => exact kept_of_next (selRise_kept s) h
  | fullReset c => exact absurd hi id
  | fullResetEnd c => exact absurd hi id
  | badCommand code =>
    refine kept_of_next ?_ h
    split
    · exact completeWord_kept (.quiet s _ _ _ _ _ _ _ _)
    · exact .refl s
  | defineSymbol => exact kept_of_next (commandWord_kept .defineSymbol s) h
  | clearSymbol => exact kept_of_next (commandWord_kept .clearSymbol s) h
  | readSymbol => exact kept_of_next (commandWord_kept .readSymbol s) h
  | openSeq => exact kept_of_next (commandWord_kept .openSeq s) h
  | appendSeq => exact kept_of_next (commandWord_kept .appendSeq s) h
  | sealSeq => exact kept_of_next (commandWord_kept .sealSeq s) h
  | discardSeq => exact kept_of_next (commandWord_kept .discardSeq s) h
  | freeSeq => exact kept_of_next (commandWord_kept .freeSeq s) h
  | readSeq => exact kept_of_next (commandWord_kept .readSeq s) h
  | postFrame => exact kept_of_next (commandWord_kept .postFrame s) h
  | flush => exact kept_of_next (commandWord_kept .flush s) h
  | abort => exact kept_of_next (commandWord_kept .abort s) h
  | release => exact kept_of_next (commandWord_kept .release s) h
  | hold => exact kept_of_next (commandWord_kept .hold s) h
  | resume => exact kept_of_next (commandWord_kept .resume s) h
  | clPop => exact kept_of_next (commandWord_kept .clPop s) h
  | capSetup => exact kept_of_next (commandWord_kept .capSetup s) h
  | capDecodeSet => exact kept_of_next (commandWord_kept .capDecodeSet s) h
  | capStart => exact kept_of_next (commandWord_kept .capStart s) h
  | capStop => exact kept_of_next (commandWord_kept .capStop s) h
  | capPop => exact kept_of_next (commandWord_kept .capPop s) h
  | setTimebase => exact kept_of_next (commandWord_kept .setTimebase s) h
  | pinRoute => exact kept_of_next (commandWord_kept .pinRoute s) h
  | engineReset => exact kept_of_next (commandWord_kept .engineReset s) h
  | registerWrite w => exact kept_of_next (completeWord_kept (writeReg_kept _ w s)) h
  | settingEnabled n w => exact kept_of_next (completeWord_kept (writeTxCtrl_row n true w s).all) h
  | clearingEnabled n w => exact kept_of_next (completeWord_kept (writeTxCtrl_row n false w s).all) h
  | watermarkWrite n w => exact kept_of_next (completeWord_kept (writeReg_kept (.txCtrl n) w s)) h
  | cgxPeriodWrite g w => exact kept_of_next (completeWord_kept (writeReg_kept (.cgPeriod g) w s)) h
  | cgxHighWrite g w => exact kept_of_next (completeWord_kept (writeReg_kept (.cgHigh g) w s)) h
  | carrierEnable g => exact kept_of_next (completeWord_kept (writeCarrierCtrl_kept g true s)) h
  | carrierDisable g => exact kept_of_next (completeWord_kept (writeCarrierCtrl_kept g false s)) h
  | pinCfgWrite p w => exact kept_of_next (completeWord_kept (writePinCfg_kept p w s)) h
  | evtPendWrite r w => exact kept_of_next (completeWord_kept (writeEvtPend_kept r w s)) h
  | evtEnWrite r w => exact kept_of_next (completeWord_kept (writeEvtEn_kept r w s)) h
  | beatEvent outside => exact kept_of_next (internalEvent_kept (beatEvent_kept outside s)) h
  | startHead n => exact kept_of_next (internalEvent_kept (startHead_row n s).all) h
  | phaseEnd n => exact kept_of_next (internalEvent_kept (phaseEnd_row n s).all) h
  | gapEnd n => exact kept_of_next (internalEvent_kept (gapEnd_row n s).all) h
  | recordAdmission =>
    obtain ⟨n, hrow⟩ := recordAdmission_row s
    exact kept_of_next (internalEvent_kept hrow.all) h
  | resumeTaken n => exact kept_of_next (internalEvent_kept (resumeTaken_row n s).all) h
  | carrierPeriodEnd g => exact kept_of_next (internalEvent_kept (carrierPeriodEnd_kept g s)) h
  | carrierHighTimeEnd g => exact kept_of_next (internalEvent_kept (carrierHighTimeEnd_kept g s)) h
  | acceptedEdge u => exact kept_of_next (internalEvent_kept (acceptedEdge_any u s).all) h
  | idleTimeout u => exact kept_of_next (internalEvent_kept (idleTimeout_any u s).all) h
  | stuckMark u => exact kept_of_next (internalEvent_kept (stuckMark_any u s).all) h
  | readWordCompletion => exact kept_of_next (readWordDone_kept s) h

/-- A row of a full reset leaves the reset values, or the state as it is. -/
theorem exec_of_fullReset {i : Instr} (hi : ¬ NoFullReset i) {s t : State} (h : exec i s = .next t) :
    t = s ∨ ∃ s', t = resetValues s' := by
  cases i with
  | fullReset c =>
    cases h
    exact .inr ⟨_, rfl⟩
  | fullResetEnd c =>
    cases h
    split
    · exact .inr ⟨_, rfl⟩
    · exact .inl rfl
  | _ => exact absurd trivial hi

/-- Everything a step can be: a change that keeps every block's promises, or a full reset's values. -/
theorem step_kept {s t : State} (h : step s = .next t) : Kept s t ∨ ∃ s', t = resetValues s' := by
  rcases step_cases h with ⟨i, rest, -, hexec⟩ | ⟨-, -, rfl⟩ | ⟨-, -, -, rfl⟩ | ⟨-, -, -, rfl⟩
  · have hpop : Kept s { s with pending := rest } := .quiet s _ _ _ _ _ _ _ _
    by_cases hi : NoFullReset i
    · exact .inl (hpop.trans (exec_kept hi hexec))
    · rcases exec_of_fullReset hi hexec with rfl | hreset
      · exact .inl hpop
      · exact .inr hreset
  · exact .inl (.refl _)
  · exact .inl (settleOne_kept s)
  · exact .inl (clockPeriod_kept s)

/-! ### The statements -/

/-- Settles O54: each row keeps a channel's flags to its state, and leaves a mark only where there is something to do. -/
theorem everyStepKeepsChannelFlags : Obligations.EveryStepKeepsChannelFlags := by
  intro s t hs h
  rcases step_kept h with hk | ⟨s', rfl⟩
  · exact ⟨hk.tx.channels hs, hk.tx.marks hs⟩
  · exact ⟨resetValues_channelsOk s', fun _ => resetValues_marksOk s'⟩

/-- Settles O55: a record enters the log or waits by the log's room, and leaves by CL_POP, FLUSH's room being checked. -/
theorem everyStepKeepsTheCompletionLog : Obligations.EveryStepKeepsTheCompletionLog := by
  intro s t h
  rcases step_kept h with hk | ⟨s', rfl⟩
  · exact ⟨hk.tx.completion, hk.tx.records⟩
  · exact ⟨fun _ => resetValues_completionLogOk s', fun _ => resetValues_recordsOk s'⟩

/-- Settles O56: carriers, routes, timebase, event registers and port, each by the rows that change it. -/
theorem everyStepKeepsTheSmallBlocks : Obligations.EveryStepKeepsTheSmallBlocks := by
  intro s t h
  rcases step_kept h with hk | ⟨s', rfl⟩
  · exact ⟨hk.carriers, hk.routes, hk.timebase, hk.events, hk.port⟩
  · exact ⟨fun _ => resetValues_carriersOk s', fun _ => resetValues_routesOk s', fun _ => resetValues_timebaseOk s',
      fun _ => resetValues_eventsOk s', fun _ => resetValues_portOk s'⟩

/-- Settles O57: the data records that units and decoders offer are written, replaced or counted as R160 and R161 say. -/
theorem everyStepKeepsTheCaptureLogs : Obligations.EveryStepKeepsTheCaptureLogs := by
  intro s t hs h
  rcases step_kept h with hk | ⟨s', rfl⟩
  · exact hk.logs hs
  · exact resetValues_captureLogsOk s'

/-- Settles O58: a decoder goes on only below a longer candidate, and a unit samples only when it has nothing left to do
of the beat event before. -/
theorem everyStepKeepsTheDecoders : Obligations.EveryStepKeepsTheDecoders := by
  intro s t h
  rcases step_kept h with hk | ⟨s', rfl⟩
  · exact ⟨hk.decoders, hk.units⟩
  · exact ⟨fun _ => resetValues_decodersOk s', fun _ => resetValues_unitsOk s'⟩

/-- In a full reset the rows of SEL# move that line alone, and the port stands as it was reset. -/
theorem exec_resetHeld {i : Instr} {s t : State} (hr : s.inReset = true) (hs : s = resetValues s)
    (h : exec i s = .next t) : ResetHeld t := by
  by_cases hbegin : i = .frameBegin
  · subst hbegin
    cases h
    by_cases hsel : s.selLow = true
    · rw [show frameBegin s = s from if_pos hsel]
      exact fun _ => hs
    · rw [show frameBegin s = { s with selLow := true } from (if_neg hsel).trans (if_pos hr)]
      exact fun _ => congrArg (fun x : State => { x with selLow := true }) hs
  · by_cases hrise : i = .selRise
    · subst hrise
      cases h
      exact fun _ => congrArg selRise hs
    · by_cases hreset : ∀ c, i ≠ .fullReset c ∧ i ≠ .fullResetEnd c
      · rw [exec_in_reset hr hbegin hrise hreset] at h
        cases h
        exact fun _ => hs
      · have hi : ¬ NoFullReset i := fun hno => hreset fun c => by
          constructor <;> rintro rfl <;> exact hno
        rcases exec_of_fullReset hi h with rfl | ⟨s', rfl⟩
        · exact fun _ => hs
        · exact resetValues_resetHeld s'

/-- Settles O59: in a full reset only the lines and the model's queue move; outside one a step begins none but by leaving
the reset values. -/
theorem nothingActsInAFullReset : Obligations.NothingActsInAFullReset := by
  intro s t hs h
  by_cases hr : s.inReset = true
  · rcases step_cases h with ⟨i, rest, -, hexec⟩ | ⟨-, -, rfl⟩ | ⟨-, hno, -⟩ | ⟨-, hno, -⟩
    · exact exec_resetHeld (s := { s with pending := rest }) hr (congrArg (fun x : State => { x with pending := rest }) (hs hr)) hexec
    · exact hs
    · exact absurd (hr.symm.trans hno) (by decide)
    · exact absurd (hr.symm.trans hno) (by decide)
  · rcases step_kept h with hk | ⟨s', rfl⟩
    · exact fun hr' => absurd (hk.inReset.symm.trans hr') hr
    · exact resetValues_resetHeld s'

end Sys2Proof.Proofs
end

section
/-! SUPPORT. A beat event's work comes to its end: O3. -/

namespace Sys2Proof.Proofs

open Sys2Proof Sys2Proof.Machine Sys2Proof.Machine.Laws Sys2Proof.Stated

/-! ### A channel that has taken its beat event -/

/-- A phase that a record has lasts at least one beat (R1). -/
theorem lengthAt_pos {x : Machine.Symbol} (h : x.Ok) {ph : Nat} (hph : ph < x.lengths.length) : 1 ≤ x.lengthAt ph := by
  have hmem : x.lengths[ph] ∈ x.lengths := List.getElem_mem hph
  have hlength : x.lengthAt ph = x.lengths[ph] := by simp [Symbol.lengthAt, hph]
  rw [hlength]
  unfold Symbol.Ok at h
  split at h
  · rw [h] at hph
    exact absurd hph (Nat.not_lt_zero ph)
  · exact (h.2.2.1 _ hmem).1

/-- A channel has no beat event left to take, and plays its phase or its gap from the first beat. -/
structure Rested (s : State) (ch : Channel) : Prop where
  due : ch.beatDue = false
  play : ∀ c, ch.state = .play c → ∃ d rest, ch.queue = d :: rest
    ∧ c.remaining = (s.cellSymbol d c.position).lengthAt c.phase
  gap : ∀ c, ch.state = .gap c → ∃ d rest, ch.queue = d :: rest ∧ c.remaining = d.gap

/-- At a place that its frame has, such a channel has nothing to do. -/
theorem Rested.not_due {s : State} {n : Fin 4} (h : Rested s (s.channel n)) (hs : PlayOk s) :
    channelDue (s.channel n) = false := by
  obtain ⟨⟨hsym, -⟩, -, hplace⟩ := hs
  have hp := hplace n
  cases hst : (s.channel n).state with
  | idle => simp [channelDue, hst, h.due]
  | logwait r => simp [channelDue, hst]
  | held c => cases c <;> simp [channelDue, hst, h.due]
  | play c =>
    obtain ⟨d, rest, hq, hrem⟩ := h.play c hst
    simp only [PlaceOk, hst, hq] at hp
    have hpos := lengthAt_pos (hsym _) hp.2
    have hne : c.remaining ≠ 0 := by
      rw [hrem]
      exact Nat.ne_of_gt hpos
    simp [channelDue, hst, hne]
  | gap c =>
    obtain ⟨d, rest, hq, hrem⟩ := h.gap c hst
    simp only [PlaceOk, hst, hq] at hp
    have hne : c.remaining ≠ 0 := by omega
    simp [channelDue, hst, hne]

section
variable {s : State} {n : Fin 4} {d : Descriptor} {rest : List Descriptor}

/-- A channel outside PLAY and GAP rests once it has no beat event left to take. -/
theorem Rested.of_state {ch : Channel} (hdue : ch.beatDue = false) (hplay : ∀ c, ch.state ≠ .play c)
    (hgap : ∀ c, ch.state ≠ .gap c) : Rested s ch :=
  ⟨hdue, fun c hc => absurd hc (hplay c), fun c hc => absurd hc (hgap c)⟩

theorem handRecord_rested {r : Completion} (hdue : (s.channel n).beatDue = false) (t : State) :
    Rested t ((handRecord n r s).channel n) := by
  by_cases hroom : s.log.length < 16
  · have hself : (handRecord n r s).channel n = postedChannel (s.channel n) := by
      rw [handRecord_of_room hroom]
      simp only [setWhen_channel, setFlag_channel]
      exact (setChannel_channel n _ s n).trans (if_pos rfl)
    rw [hself]
    refine .of_state (by simp [postedChannel, hdue]) (fun c => ?_) (fun c => ?_) <;>
      cases hh : (s.channel n).holdPending <;> simp [postedChannel, hh]
  · have hself : (handRecord n r s).channel n = { s.channel n with state := .logwait r, beatDue := false } := by
      rw [handRecord_of_full hroom]
      exact (setChannel_channel n _ s n).trans (if_pos rfl)
    rw [hself]
    exact .of_state rfl (fun c h => nomatch h) (fun c h => nomatch h)

theorem frameEnd_rested (hq : (s.channel n).queue = d :: rest) (hdue : (s.channel n).beatDue = false) (o : FrameOutcome)
    (c : Context) (w : Nat) (t : State) : Rested t ((frameEnd n o c w s).channel n) := by
  rw [frameEnd_cons hq, examineLow_eq]
  refine handRecord_rested ?_ t
  rw [setWhen_channel, setChannel_channel, if_pos rfl]
  exact hdue

theorem beginPhase_rested (hq : (s.channel n).queue = d :: rest) (hdue : (s.channel n).beatDue = false) (c : Context) :
    Rested (beginPhase n d c s) ((beginPhase n d c s).channel n) := by
  obtain ⟨absent, e⟩ := beginPhase_cases n d c s
  rw [e, setChannel_channel, if_pos rfl]
  refine ⟨hdue, fun c' hc' => ⟨d, rest, hq, ?_⟩, fun c' hc' => nomatch hc'⟩
  cases hc'
  rfl

theorem beginGap_rested (hq : (s.channel n).queue = d :: rest) (hdue : (s.channel n).beatDue = false) (c : Context)
    (t : State) : Rested t ((beginGap n d c s).channel n) := by
  rw [beginGap_eq, setChannel_channel, if_pos rfl]
  refine ⟨hdue, fun c' hc' => (nomatch hc'), fun c' hc' => ⟨d, rest, hq, ?_⟩⟩
  cases hc'
  rfl

theorem boundary_rested (hq : (s.channel n).queue = d :: rest) (hdue : (s.channel n).beatDue = false)
    (next : NextStep × Context) : Rested (boundary n d next s) ((boundary n d next s).channel n) := by
  obtain ⟨x, c⟩ := next
  rcases boundary_cases n d x c s with ⟨o, e, -⟩ | ⟨-, -, -, e⟩ | ⟨-, -, -, e⟩ | ⟨-, -, -, e⟩ <;> rw [e]
  · exact frameEnd_rested hq hdue o c _ _
  · rw [enterHeld_eq, setFlag_channel, setChannel_channel, if_pos rfl]
    exact .of_state rfl (fun c h => nomatch h) (fun c h => nomatch h)
  · exact beginPhase_rested hq hdue _
  · exact beginGap_rested hq hdue c _

theorem startFrame_rested (hq : (s.channel n).queue = d :: rest) (hdue : (s.channel n).beatDue = false) :
    Rested (startFrame n s) ((startFrame n s).channel n) := by
  have e : startFrame n s = beginPhase n d { Context.start with phase := 0 } s := by simp only [startFrame, hq]; rfl
  rw [e]
  exact beginPhase_rested hq hdue _

end

/-- A channel that has something to do at a beat event has nothing left once it has done it. -/
theorem takeBeat_rested {s : State} {n : Fin 4} (h : channelDue (s.channel n) = true) :
    Rested (takeBeat n s) ((takeBeat n s).channel n) := by
  have htaken : (beatTaken n s).channel n = { s.channel n with beatDue := false } := by simp
  unfold channelDue at h
  unfold takeBeat
  cases hst : (s.channel n).state with
  | logwait r => simp [hst] at h
  | idle =>
    simp only [hst, Bool.and_eq_true] at h ⊢
    obtain ⟨d, rest, hq⟩ := List.exists_cons_of_ne_nil ((canStart_iff _).mp h.2).2
    rw [show startHead n s = startFrame n (beatTaken n s) from if_pos ⟨h.1, hst, h.2⟩]
    exact startFrame_rested (by rw [htaken]; exact hq) (by rw [htaken])
  | play c =>
    simp only [hst, Bool.and_eq_true, decide_eq_true_eq, Bool.not_eq_true', List.isEmpty_eq_false_iff] at h ⊢
    obtain ⟨d, rest, hq⟩ := List.exists_cons_of_ne_nil h.2
    have hq' : ((beatTaken n s).channel n).queue = d :: rest := by rw [htaken]; exact hq
    have hdue' : ((beatTaken n s).channel n).beatDue = false := by rw [htaken]
    simp only [phaseEnd, hst, hq, if_pos h.1]
    split
    · exact beginPhase_rested hq' hdue' _
    · exact boundary_rested hq' hdue' _
  | gap c =>
    simp only [hst, Bool.and_eq_true, decide_eq_true_eq, Bool.not_eq_true', List.isEmpty_eq_false_iff] at h ⊢
    obtain ⟨d, rest, hq⟩ := List.exists_cons_of_ne_nil h.2
    simp only [gapEnd, hst, hq, if_pos h.1]
    exact boundary_rested (by rw [htaken]; exact hq) (by rw [htaken]) _
  | held o =>
    have hresumed : (beatTaken n s).modChannel n (fun ch => { ch with resumePending := false })
        = s.setChannel n { s.channel n with beatDue := false, resumePending := false } := by
      simp only [beatTaken_eq, modChannel_eq, setChannel_setChannel, setChannel_channel, if_true]
    cases o with
    | none =>
      simp only [hst, Bool.and_eq_true] at h
      simp only [resumeTaken, hst, hresumed, if_pos h]
      split
      · next hstart =>
        obtain ⟨d, rest, hq⟩ := List.exists_cons_of_ne_nil ((canStart_iff _).mp hstart).2
        exact startFrame_rested (d := d) (rest := rest) (by simp [hq]) (by simp)
      · rw [setState_eq, setChannel_channel, if_pos rfl, setChannel_channel, if_pos rfl]
        exact .of_state rfl (fun c h => nomatch h) (fun c h => nomatch h)
    | some c =>
      simp only [hst, Bool.and_eq_true, Bool.not_eq_true', List.isEmpty_eq_false_iff] at h
      obtain ⟨d, rest, hq⟩ := List.exists_cons_of_ne_nil h.2
      simp only [resumeTaken, hst, hresumed, hq, if_pos h.1]
      split
      · exact beginGap_rested (rest := rest) (by simp) (by simp) c _
      · exact beginPhase_rested (rest := rest) (by simp) (by simp) _

/-! ### Counting the pieces -/

/-- How many pieces of a beat event's work are left at most. -/
def piecesLeft (s : State) : Nat := unitsWork s + (dueChannels s).length

theorem dueChannels_congr {s t : State} (h : t.channels = s.channels) : dueChannels t = dueChannels s := by
  simp only [dueChannels, State.channel, h]

theorem workLeft_iff (s : State) : workLeft s = true ↔ 0 < piecesLeft s := by
  have hunits : unitDue (s.captureUnit 0) = true ∨ unitDue (s.captureUnit 1) = true ↔ 0 < unitsWork s := by
    rw [unitWork_pos, unitWork_pos, unitsWork]
    omega
  have hchannels : (!(dueChannels s).isEmpty) = true ↔ 0 < (dueChannels s).length := by
    rw [List.length_pos_iff, Bool.not_eq_true', List.isEmpty_eq_false_iff]
  rw [workLeft, Bool.or_eq_true, Bool.or_eq_true, hunits, hchannels, piecesLeft]
  omega

/-- A channel that takes its beat event leaves the list of those that have it to take. -/
theorem takeBeat_pieces {s : State} {n : Fin 4} (hs : PlayOk s) (h : channelDue (s.channel n) = true) :
    piecesLeft (takeBeat n s) < piecesLeft s := by
  have hshape := (takeBeat_row n s).shape
  have hplay : PlayOk (takeBeat n s) := ((framesOk_iff False _).mp
    ((takeBeat_keeps False n s).frames ((framesOk_iff False s).mpr ⟨hs, False.elim⟩))).1
  have hdone := (takeBeat_rested h).not_due hplay
  have herase : dueChannels (takeBeat n s) = (dueChannels s).erase n := by
    have hnodup : (dueChannels s).Nodup := List.Nodup.filter _ (by decide)
    rw [hnodup.erase_eq_filter]
    unfold dueChannels
    rw [List.filter_filter]
    refine List.filter_congr fun m _ => ?_
    by_cases hm : m = n
    · simp [hm, hdone]
    · simp [hm, hshape.channel_of_ne hm]
  have hmem : n ∈ dueChannels s := List.mem_filter.mpr ⟨(by decide : ∀ m : Fin 4, m ∈ [0, 1, 2, 3]) n, h⟩
  have hpos := List.length_pos_of_mem hmem
  rw [piecesLeft, piecesLeft, unitsWork_congr hshape.units, herase, List.length_erase_of_mem hmem]
  omega

theorem settleOne_pieces_le {s : State} (hs : PlayOk s) : piecesLeft (settleOne s) ≤ piecesLeft s - 1 := by
  rcases settleOne_pieces s with ⟨u, hu, e⟩ | ⟨h0, hnone, e⟩ | ⟨-, n, k, hdue, -, e⟩ <;> rw [e]
  · have hlt := takeSample_unitsWork hu
    rw [piecesLeft, piecesLeft, dueChannels_congr (takeSample_row hu).1.shape.channels]
    omega
  · rw [piecesLeft, h0, hnone]
    exact Nat.le_refl 0
  · exact Nat.le_pred_of_lt (takeBeat_pieces (s := { s with freeCount := k }) hs hdue)

theorem settleOne_playOk {s : State} (hs : PlayOk s) : PlayOk (settleOne s) :=
  ((framesOk_iff False _).mp ((settleOne_keeps False s).frames ((framesOk_iff False s).mpr ⟨hs, False.elim⟩))).1

/-- As many pieces as are left are enough. -/
theorem settleUpTo_done {k : Nat} {s : State} (hs : PlayOk s) (h : piecesLeft s ≤ k) :
    workLeft (settleUpTo k s) = false := by
  have hnone : ∀ {t : State}, piecesLeft t = 0 → workLeft t = false := fun h0 => by
    by_contra hw
    have := (workLeft_iff _).mp (by simpa using hw)
    omega
  induction k generalizing s with
  | zero => exact hnone (Nat.le_zero.mp h)
  | succ k ih =>
    rw [settleUpTo]
    split
    · have := settleOne_pieces_le hs
      exact ih (settleOne_playOk hs) (by omega)
    · next hw => simpa using hw

/-- Two pieces at most for each unit and one for each channel. -/
theorem piecesLeft_le (s : State) : piecesLeft s ≤ 8 :=
  Nat.add_le_add (unitsWork_le s) (List.length_filter_le _ _)

/-- Settles O3: each piece lowers the number of those left, and there are eight at most. -/
theorem beatWorkComesToAnEnd : Obligations.BeatWorkComesToAnEnd :=
  fun s hs => settleUpTo_done hs (piecesLeft_le s)

end Sys2Proof.Proofs
end

section
/-! SUPPORT. The model's queue of waiting commands has no part in a beat event's work. -/

namespace Sys2Proof.Proofs

open Sys2Proof Sys2Proof.Machine Sys2Proof.Machine.Laws Sys2Proof.Stated

/-! ### The queue has no part in what a channel does -/

/-- The state with another queue of waiting commands. -/
def queued (p : List Instr) (s : State) : State := { s with pending := p }

/-- Two branches that each leave the queue alone do so together. -/
theorem ite_queued {c c' : Prop} [Decidable c] [Decidable c'] {p : List Instr} {a a' b b' : State} (hc : c' ↔ c)
    (ha : a' = queued p a) (hb : b' = queued p b) : (if c' then a' else b') = queued p (if c then a else b) := by
  rw [apply_ite (queued p)]
  exact if_congr hc ha hb

section
variable (p : List Instr) (n : Fin 4) (s : State)

theorem afterPosted_queued : afterPosted n (queued p s) = queued p (afterPosted n s) :=
  ite_queued Iff.rfl rfl rfl

theorem handRecord_queued (r : Completion) : handRecord n r (queued p s) = queued p (handRecord n r s) := by
  have hfull : examineFull s.log.length (postRecord r (queued p s))
      = queued p (examineFull s.log.length (postRecord r s)) := ite_queued Iff.rfl rfl rfl
  refine ite_queued Iff.rfl ?_ rfl
  exact (congrArg (afterPosted n) hfull).trans (afterPosted_queued p n _)

theorem frameEnd_queued (o : FrameOutcome) (c : Context) (w : Nat) :
    frameEnd n o c w (queued p s) = queued p (frameEnd n o c w s) := by
  cases hq : (s.channel n).queue with
  | nil => rw [frameEnd_nil hq, frameEnd_nil (s := queued p s) hq]
  | cons d rest =>
    rw [frameEnd_cons hq, frameEnd_cons (s := queued p s) hq, ← handRecord_queued]
    exact congrArg (handRecord n (frameRecord n d o c)) (ite_queued Iff.rfl rfl rfl)

theorem beginPhase_queued (d : Descriptor) (c : Context) :
    beginPhase n d c (queued p s) = queued p (beginPhase n d c s) := by
  unfold beginPhase
  simp only [markAbsent_eq]
  rfl

theorem startFrame_queued : startFrame n (queued p s) = queued p (startFrame n s) := by
  have hqueue : ((queued p s).channel n).queue = (s.channel n).queue := rfl
  cases hq : (s.channel n).queue with
  | nil => simp only [startFrame, hqueue, hq]
  | cons d rest =>
    simp only [startFrame, hqueue, hq]
    exact beginPhase_queued p n s d _

theorem boundary_queued (d : Descriptor) (next : NextStep × Context) :
    boundary n d next (queued p s) = queued p (boundary n d next s) := by
  obtain ⟨x, c⟩ := next
  refine ite_queued Iff.rfl (frameEnd_queued p n s _ _ _) ?_
  cases x with
  | finish => exact frameEnd_queued p n s _ _ _
  | symbol => exact ite_queued Iff.rfl rfl (beginPhase_queued p n s d _)
  | gap => exact ite_queued Iff.rfl rfl rfl

/-- A HELD channel takes the beat event at which it goes on. -/
def resumed (n : Fin 4) (s : State) : State :=
  (beatTaken n s).modChannel n (fun ch => { ch with resumePending := false })

theorem takeBeat_queued : takeBeat n (queued p s) = queued p (takeBeat n s) := by
  have hchannel : (queued p s).channel n = s.channel n := rfl
  unfold takeBeat
  cases hst : (s.channel n).state with
  | logwait r => simp only [hchannel, hst]
  | idle =>
    simp only [hchannel, hst]
    exact ite_queued Iff.rfl (startFrame_queued p n (beatTaken n s)) rfl
  | play c =>
    simp only [hchannel, hst, phaseEnd]
    cases (s.channel n).queue with
    | nil => rfl
    | cons d rest =>
      refine ite_queued Iff.rfl (ite_queued Iff.rfl ?_ ?_) rfl
      · exact beginPhase_queued p n (beatTaken n s) d _
      · exact boundary_queued p n (beatTaken n s) d _
  | gap c =>
    simp only [hchannel, hst, gapEnd]
    cases (s.channel n).queue with
    | nil => rfl
    | cons d rest => exact ite_queued Iff.rfl (boundary_queued p n (beatTaken n s) d _) rfl
  | held o =>
    simp only [hchannel, hst, resumeTaken]
    refine ite_queued Iff.rfl ?_ rfl
    cases o with
    | none => exact ite_queued Iff.rfl (startFrame_queued p n (resumed n s)) rfl
    | some c =>
      cases (s.channel n).queue with
      | nil => rfl
      | cons d rest => exact ite_queued Iff.rfl rfl (beginPhase_queued p n (resumed n s) d _)

end

/-! ### The queue has no part in what a unit does -/

section
variable (p : List Instr) (s : State) (set : List (Fin 64))

theorem takeItem_queued (x : Item) (w : Work) : takeItem (queued p s) set x w = takeItem s set x w := rfl

theorem takeAll_queued (fuel : Nat) (items : List Item) (w : Work) :
    takeAll (queued p s) set fuel items w = takeAll s set fuel items w := by
  induction fuel generalizing items w with
  | zero => simp only [takeAll]
  | succ fuel ih =>
    cases items with
    | nil => simp only [takeAll]
    | cons x rest => simp only [takeAll, takeItem_queued, ih]

theorem feed_queued (items : List Item) (w : Work) : feed (queued p s) set items w = feed s set items w :=
  takeAll_queued p s set _ items w

theorem flushStep_queued (w : Work) : flushStep (queued p s) set w = flushStep s set w := by
  have hfull : firstFull (queued p s) set w.list = firstFull s set w.list := rfl
  have hback : fallBack (queued p s) w = fallBack s w := rfl
  have hrecord : symbolRecord (queued p s) = symbolRecord s := rfl
  unfold flushStep
  simp only [hfull, hback, hrecord, feed_queued]

theorem flushAll_queued (fuel : Nat) (w : Work) : flushAll (queued p s) set fuel w = flushAll s set fuel w := by
  induction fuel generalizing w with
  | zero => rfl
  | succ fuel ih => simp only [flushAll, flushStep_queued, ih]
end

section
variable (p : List Instr) (u : Fin 2) (s : State)

theorem offerRecord_queued (r : CaptureRecord) : offerRecord u r (queued p s) = queued p (offerRecord u r s) := by
  have henter : ∀ x, enterCaptureLog u x (queued p s) = queued p (enterCaptureLog u x s) := fun x =>
    ite_queued Iff.rfl rfl rfl
  exact ite_queued Iff.rfl (henter r) (ite_queued Iff.rfl (congrArg (State.setFlag (.capOvr u)) (henter _)) rfl)

theorem offerAll_queued (out : List CaptureRecord) : offerAll u out (queued p s) = queued p (offerAll u out s) := by
  induction out generalizing s with
  | nil => rfl
  | cons r out ih => rw [offerAll, offerRecord_queued, ih, offerAll]

theorem keepWork_queued (w : Work) : keepWork u w (queued p s) = queued p (keepWork u w s) :=
  offerAll_queued p u (s.modUnit u (fun c => { c with pendingList := itemPhases w.list, held := w.held })) w.out

theorem decodePhase_queued (x : Phase) : decodePhase u x (queued p s) = queued p (decodePhase u x s) := by
  have hunit : (queued p s).captureUnit u = s.captureUnit u := rfl
  unfold decodePhase
  simp only [hunit, feed_queued]
  exact keepWork_queued p u s _

theorem decodeFlush_queued (o : Option Phase) : decodeFlush u o (queued p s) = queued p (decodeFlush u o s) := by
  have hunit : (queued p s).captureUnit u = s.captureUnit u := rfl
  unfold decodeFlush
  simp only [hunit, feed_queued, flushAll_queued]
  exact keepWork_queued p u s _

theorem closePhase_queued (x : Phase) : closePhase u x (queued p s) = queued p (closePhase u x s) := by
  have hunit : (queued p s).captureUnit u = s.captureUnit u := rfl
  unfold closePhase
  cases hmode : (s.captureUnit u).config.mode with
  | raw =>
    simp only [hunit, hmode]
    exact offerRecord_queued p u s _
  | decode =>
    simp only [hunit, hmode]
    exact decodePhase_queued p u s x

theorem flushUnit_queued (o : Option Phase) : flushUnit u o (queued p s) = queued p (flushUnit u o s) := by
  have hunit : (queued p s).captureUnit u = s.captureUnit u := rfl
  unfold flushUnit
  cases hmode : (s.captureUnit u).config.mode with
  | raw => simp only [hunit, hmode]
  | decode =>
    simp only [hunit, hmode]
    exact decodeFlush_queued p u s o

theorem endFrame_queued (o : Option Phase) (phases : Nat) (stuck cut : Bool) (flag : Option Flag) (next : CaptureState) :
    endFrame u o phases stuck cut flag next (queued p s) = queued p (endFrame u o phases stuck cut flag next s) := by
  have hnumber : ((queued p s).captureUnit u).frameNumber = (s.captureUnit u).frameNumber := rfl
  unfold endFrame
  simp only [flushUnit_queued, offerRecord_queued, hnumber]
  generalize offerRecord u _ (flushUnit u o s) = t
  cases flag <;> rfl

theorem acceptedEdge_queued : acceptedEdge u (queued p s) = queued p (acceptedEdge u s) := by
  have hunit : (queued p s).captureUnit u = s.captureUnit u := rfl
  cases hst : (s.captureUnit u).state with
  | off => simp only [acceptedEdge, hunit, hst]
  | armed o =>
    cases o with
    | none => simp only [acceptedEdge, hunit, hst]
    | some f =>
      simp only [acceptedEdge, hunit, hst]
      refine ite_queued Iff.rfl ?_ rfl
      cases f.accepted <;> rfl
  | inFrame f age phases =>
    simp only [acceptedEdge, hunit, hst]
    exact ite_queued Iff.rfl (closePhase_queued p u (s.setCapture u _) _) rfl
  | stuck f =>
    simp only [acceptedEdge, hunit, hst]
    refine ite_queued Iff.rfl ?_ rfl
    cases f.accepted <;> rfl

theorem idleTimeout_queued : idleTimeout u (queued p s) = queued p (idleTimeout u s) := by
  have hunit : (queued p s).captureUnit u = s.captureUnit u := rfl
  cases hst : (s.captureUnit u).state with
  | inFrame f age phases =>
    simp only [idleTimeout, hunit, hst]
    exact ite_queued Iff.rfl (endFrame_queued p u s _ _ _ _ _ _) rfl
  | _ => simp only [idleTimeout, hunit, hst]

theorem stuckMark_queued : stuckMark u (queued p s) = queued p (stuckMark u s) := by
  have hunit : (queued p s).captureUnit u = s.captureUnit u := rfl
  cases hst : (s.captureUnit u).state with
  | inFrame f age phases =>
    simp only [stuckMark, hunit, hst]
    exact ite_queued Iff.rfl (endFrame_queued p u s _ _ _ _ _ _) rfl
  | _ => simp only [stuckMark, hunit, hst]

theorem takeSample_queued : takeSample u (queued p s) = queued p (takeSample u s) :=
  ite_queued Iff.rfl (acceptedEdge_queued p u s)
    (ite_queued Iff.rfl (idleTimeout_queued p u s) (stuckMark_queued p u s))

end

/-- The queue has no part in a piece of a beat event's work. -/
theorem settleOne_queued (p : List Instr) (s : State) : settleOne (queued p s) = queued p (settleOne s) := by
  have hdue : dueChannels (queued p s) = dueChannels s := rfl
  refine ite_queued Iff.rfl (takeSample_queued p 0 s) (ite_queued Iff.rfl (takeSample_queued p 1 s) ?_)
  rw [hdue]
  cases dueChannels s with
  | nil => rfl
  | cons n rest =>
    cases rest with
    | nil => exact takeBeat_queued p n s
    | cons m rest => exact takeBeat_queued p _ { s with freeCount := s.freeCount + 1 }

end Sys2Proof.Proofs
end

section
/-! SUPPORT. What the device does with nothing waiting: O2. -/

namespace Sys2Proof.Proofs

open Sys2Proof Sys2Proof.Machine Sys2Proof.Machine.Laws Sys2Proof.Stated

/-! ### The row that each piece of a beat event's work is -/

/-- The row at which a channel in state x takes its beat event; a channel in LOGWAIT takes none. -/
def beatRow (x : ChannelState) (n : Fin 4) : Instr :=
  match x with
  | .idle => .startHead n
  | .play _ => .phaseEnd n
  | .gap _ => .gapEnd n
  | .held _ => .resumeTaken n
  | .logwait _ => .recordAdmission

/-- The row at which a unit acts on its sample. -/
def sampleRow (c : CaptureUnit) (u : Fin 2) : Instr :=
  if edgeDue c then .acceptedEdge u else if idleReached c then .idleTimeout u else .stuckMark u

section
variable {s : State} {n : Fin 4} {u : Fin 2}

theorem channelDue_iff (s : State) (n : Fin 4) :
    channelDue (s.channel n) = true ↔ DueRow s (beatRow (s.channel n).state n) := by
  cases hst : (s.channel n).state with
  | logwait r => simp [channelDue, hst, beatRow, DueRow]
  | idle => simp [channelDue, hst, beatRow, DueRow, canStart_iff]
  | play c => simp [channelDue, hst, beatRow, DueRow]
  | gap c => simp [channelDue, hst, beatRow, DueRow]
  | held o => cases o <;> simp [channelDue, hst, beatRow, DueRow, and_assoc]

theorem exec_beatRow (hr : s.inReset = false) (h : channelDue (s.channel n) = true) :
    exec (beatRow (s.channel n).state n) s = .next (takeBeat n s) := by
  unfold takeBeat
  cases hst : (s.channel n).state with
  | logwait r => simp [channelDue, hst] at h
  | _ => exact congrArg Host.Outcome.next (internalEvent_of hr _)

theorem dueRow_sampleRow (h : unitDue (s.captureUnit u) = true) : DueRow s (sampleRow (s.captureUnit u) u) := by
  unfold sampleRow
  split
  · next hedge => exact (edgeDue_iff _).mp hedge
  · next hedge =>
    split
    · next hidle => exact (idleReached_iff _).mp hidle
    · next hidle => exact (stuckReached_iff _).mp (by simpa [unitDue, hedge, hidle] using h)

theorem exec_sampleRow (hr : s.inReset = false) :
    exec (sampleRow (s.captureUnit u) u) s = .next (takeSample u s) := by
  unfold sampleRow takeSample
  split
  · exact congrArg Host.Outcome.next (internalEvent_of hr _)
  · split <;> exact congrArg Host.Outcome.next (internalEvent_of hr _)

end

/-- Something is left to do where a unit or a channel has something to do. -/
theorem workLeft_iff_due (s : State) : workLeft s = true
    ↔ (∃ u, unitDue (s.captureUnit u) = true) ∨ ∃ n, channelDue (s.channel n) = true := by
  have hchannels : (!(dueChannels s).isEmpty) = true ↔ ∃ n, channelDue (s.channel n) = true := by
    rw [Bool.not_eq_true', List.isEmpty_eq_false_iff_exists_mem]
    exact exists_congr fun n => List.mem_filter.trans (and_iff_right (by fin_cases n <;> decide))
  rw [workLeft, Bool.or_eq_true, Bool.or_eq_true, hchannels, Fin.exists_fin_two]

theorem workLeft_iff_dueRow (s : State) : workLeft s = true ↔ ∃ i, DueRow s i := by
  rw [workLeft_iff_due]
  constructor
  · rintro (⟨u, hu⟩ | ⟨n, hn⟩)
    · exact ⟨_, dueRow_sampleRow hu⟩
    · exact ⟨_, (channelDue_iff s n).mp hn⟩
  · rintro ⟨i, hi⟩
    have hchannel : ∀ n x, (s.channel n).state = x → DueRow s (beatRow x n) →
        (∃ u, unitDue (s.captureUnit u) = true) ∨ ∃ n, channelDue (s.channel n) = true := by
      rintro n _ rfl h
      exact .inr ⟨n, (channelDue_iff s n).mpr h⟩
    cases i with
    | startHead n =>
      have ⟨_, hst, _⟩ := hi
      exact hchannel n .idle hst hi
    | phaseEnd n =>
      have ⟨c, hst, _⟩ := hi
      exact hchannel n (.play c) hst hi
    | gapEnd n =>
      have ⟨c, hst, _⟩ := hi
      exact hchannel n (.gap c) hst hi
    | resumeTaken n =>
      have ⟨_, _, hst⟩ := hi
      rcases hst with hst | ⟨c, hst, _⟩
      · exact hchannel n (.held none) hst hi
      · exact hchannel n (.held (some c)) hst hi
    | acceptedEdge u => exact .inl ⟨u, by simp [unitDue, (edgeDue_iff _).mpr hi]⟩
    | idleTimeout u => exact .inl ⟨u, by simp [unitDue, (idleReached_iff _).mpr hi]⟩
    | stuckMark u => exact .inl ⟨u, by simp [unitDue, (stuckReached_iff _).mpr hi]⟩
    | _ => exact hi.elim

/-- A piece of a beat event's work is a row whose condition holds; a choice between channels moves the counter of free
values. -/
theorem settleOne_dueRow {s : State} (hr : s.inReset = false) (hw : workLeft s = true) :
    ∃ i, DueRow s i ∧ (.next (settleOne s) = exec i s
      ∨ .next (settleOne s) = exec i { s with freeCount := s.freeCount + 1 }) := by
  rcases settleOne_pieces s with ⟨u, hu, e⟩ | ⟨h0, hnone, -⟩ | ⟨-, n, k, hdue, hk, e⟩
  · exact ⟨_, dueRow_sampleRow hu, .inl (by rw [e, exec_sampleRow hr])⟩
  · have := (workLeft_iff s).mp hw
    rw [piecesLeft, h0, hnone] at this
    exact absurd this (Nat.lt_irrefl 0)
  · have hexec := exec_beatRow (s := { s with freeCount := k }) (n := n) hr hdue
    refine ⟨_, (channelDue_iff s n).mp hdue, hk.imp ?_ ?_⟩ <;>
    · rintro rfl
      exact (congrArg Host.Outcome.next e).trans hexec.symm

/-! ### One CLKIN period -/

theorem ticks_eq (t : State) : (t.modCarrier 0 Carrier.tick).modCarrier 1 Carrier.tick
    = { t with carriers := #v[(t.carrier 0).tick, (t.carrier 1).tick] } := by
  have hother : (t.modCarrier 0 Carrier.tick).carrier 1 = t.carrier 1 := by simp
  have htable : (t.carriers.set (0 : Fin 2) (t.carrier 0).tick).set (1 : Fin 2) (t.carrier 1).tick
      = #v[(t.carrier 0).tick, (t.carrier 1).tick] := by
    ext i hi
    match i with
    | 0 | 1 => simp
  rw [State.modCarrier, hother]
  exact congrArg (fun v => { t with carriers := v }) htable

theorem clockPeriod_of_before {s : State} (h : s.count + 1 < 2 ^ s.exponent) :
    clockPeriod s = { s with
      count := s.count + 1
      channels := Vector.ofFn (fun n => { s.channel n with beatDue := false })
      carriers := #v[(s.carrier 0).tick, (s.carrier 1).tick] } := by
  unfold clockPeriod
  simp only [if_neg (Nat.not_le.mpr h), ticks_eq, dropBeat_eq]
  rfl

theorem clockPeriod_of_beat {s : State} (h : s.count + 1 = 2 ^ s.exponent) : clockPeriod s =
    let t := beatEvent (Config.outside s.freeCount) { s with freeCount := s.freeCount + 1 }
    { t with carriers := #v[(t.carrier 0).tick, (t.carrier 1).tick] } := by
  unfold clockPeriod
  simp only [if_pos (Nat.le_of_eq h.symm), ticks_eq]

/-! ### A piece done first makes no difference to a beat event -/

/-- More steps than there are pieces left change nothing. -/
theorem settleUpTo_succ {k : Nat} {s : State} (hs : PlayOk s) (h : piecesLeft s ≤ k) :
    settleUpTo (k + 1) s = settleUpTo k s := by
  have hsplit : ∀ (j : Nat) (t : State), settleUpTo (j + 1) t = settleUpTo 1 (settleUpTo j t) := by
    intro j
    induction j with
    | zero => exact fun _ => rfl
    | succ j ih =>
      intro t
      cases hw : workLeft t with
      | true => rw [settleUpTo, settleUpTo.eq_2 t j, if_pos hw, if_pos hw, ih]
      | false => rw [settleUpTo_of_no_work hw, settleUpTo_of_no_work hw, settleUpTo_of_no_work hw]
  rw [hsplit, settleUpTo_of_no_work (settleUpTo_done hs h)]

theorem settle_settleOne {s : State} (hs : PlayOk s) (hw : workLeft s = true) : settle (settleOne s) = settle s := by
  have hfirst : settle s = settleUpTo 7 (settleOne s) := by rw [settle, settleUpTo, if_pos hw]
  have hle : piecesLeft (settleOne s) ≤ 7 := (settleOne_pieces_le hs).trans (Nat.sub_le_sub_right (piecesLeft_le s) 1)
  rw [hfirst, settle, settleUpTo_succ (settleOne_playOk hs) hle]

theorem step_of_empty {s : State} (h : s.pending = []) : step s = .next (runByItself s) := by
  simp only [step, h]

theorem runByItself_of_work {s : State} (hr : s.inReset = false) (hw : workLeft s = true) :
    runByItself s = settleOne s := by
  simp [runByItself, hr, hw]

/-- Settles O2: with nothing waiting the step is a piece of a beat event's work, or else a clock period; a piece done so
is one that the next beat event would have done first. -/
theorem emptyQueueCountsAClockPeriod : Obligations.EmptyQueueCountsAClockPeriod := by
  intro s
  refine ⟨fun hempty => ⟨fun hr => ?reset, fun hr hw => ⟨fun hcount => ?before, fun hcount => ?beat⟩,
    fun hr hw => ?work⟩, workLeft_iff_dueRow s, fun outside t hs hr hw hstep => ?first⟩
  case reset =>
    rw [step_of_empty hempty, runByItself, if_pos hr]
  case before =>
    rw [step_of_empty hempty, ← clockPeriod_of_before hcount]
    simp [runByItself, hr, hw]
  case beat =>
    refine ⟨_, congrArg Host.Outcome.next (internalEvent_of (s := { s with freeCount := s.freeCount + 1 }) hr _), ?_⟩
    rw [step_of_empty hempty]
    refine congrArg Host.Outcome.next (Eq.trans ?_ (clockPeriod_of_beat hcount))
    simp [runByItself, hr, hw]
  case work =>
    rw [step_of_empty hempty, runByItself_of_work hr hw]
    exact settleOne_dueRow hr hw
  case first =>
    have ht : settleOne (queued [] s) = t := by
      have hrun := (step_of_empty (s := queued [] s) rfl).symm.trans hstep
      rw [runByItself_of_work (s := queued [] s) hr hw] at hrun
      exact Host.Outcome.next.inj hrun
    have hback : ({ t with pending := s.pending } : State) = settleOne s := by
      rw [← ht, settleOne_queued]
      exact (settleOne_queued s.pending s).symm
    rw [hback]
    refine congrArg Host.Outcome.next ?_
    have hreset : (settleOne s).inReset = false := (settleOne_kept s).inReset ▸ hr
    rw [internalEvent_of hr, internalEvent_of hreset, beatEvent, beatEvent, settle_settleOne hs hw]

end Sys2Proof.Proofs
end
